-- ==== Sys2Proof/Word.lean ====
section
/-! DEFINITION. The two word types of the machine (R6): the 8-bit byte and the 16-bit word. -/

namespace Sys2Proof

/-- A byte: the width of data and of the CPU's 8-bit registers (R6). -/
abbrev Byte := BitVec 8

/-- A 16-bit word: a register pair or a memory address (R6). -/
abbrev Word := BitVec 16

end Sys2Proof
end

