-- ==== Sys2Proof/Config.lean ====
section
/-! DEFINITION. What one implementation fixes and no parameter of Machine/Params.lean names, and the FREE VALUES and
UNINTERPRETED FUNCTIONS: opaque constants, which no proof can evaluate. -/

namespace Sys2Proof

/-- What a byte of memory that neither the image nor a store has written reads as. DESIGN CHOICE: the spec
gives no power-on contents (R42, U11); the value is the one of the spec's test vectors. Log entry 6. -/
def Config.unwrittenByte : Byte := 0x00#8

/-- How deep EI may nest before the machine counts as stuck (R289, U12). Log entry 14. -/
def Config.eiNestingBound : Nat := 65536

/-- The bits of F to which the spec gives no value after some instructions: F5 and F3 (the parameter `XY`,
R31, U1), S and P/V after BIT (U5), S, H and P/V after block input and output (U6). -/
inductive FreeFlag where
  | f5
  | f3
  | s
  | h
  | p
  deriving DecidableEq, Repr

/-- FREE VALUE: the bit the machine happens to hold for `which` at draw number `n` (R31, D5, D19). It has no
body: every statement about it holds for every value. Log entries 9 and 10. -/
opaque Config.freeFlag (which : FreeFlag) (n : Nat) : Bool

/-- FREE VALUE: `Refresh`, bits 6:0 of R after the step with draw number `n` (R27, D6, U2). It has no body.
Log entry 4. -/
opaque Config.refresh (n : Nat) : BitVec 7

/-- FREE VALUE: the byte a registered port other than the VDP's answers at draw number `n` (R66: the device behind
it is an external collaborator). It has no body. Log entry 12. -/
opaque Config.deviceByte (port : Byte) (n : Nat) : Byte

/-- UNINTERPRETED: what `Read(a)` of a memory component other than the flat one answers when the component's state is
`m` (R62: the CPU's rules assume nothing of it). It has no body. Log entry 19. -/
opaque Config.componentRead (m : List (Nat × Byte)) (a : Word) : Byte

/-- UNINTERPRETED: the component's state after `Read(a)` (R65). It has no body. Log entry 19. -/
opaque Config.componentAfterRead (m : List (Nat × Byte)) (a : Word) : List (Nat × Byte)

/-- UNINTERPRETED: the component's state after `Write(a, v)` (R62). It has no body. Log entry 19. -/
opaque Config.componentWrite (m : List (Nat × Byte)) (a : Word) (v : Byte) : List (Nat × Byte)

/-- UNINTERPRETED: the component's state after the host has loaded an image at a reset (R466). It has no body. Log
entry 19. -/
opaque Config.componentLoad (m image : List (Nat × Byte)) : List (Nat × Byte)

/-- UNINTERPRETED: the background column shown at screen column `x` when `VR[8] = r8`, of a VDP whose `HScroll` is not
the default (R505, D39). It has no body. Log entry 15. -/
opaque Config.scrolledColumn (x : Nat) (r8 : Byte) : Byte

end Sys2Proof
end

