-- ==== Sys2Proof/Syntax.lean ====
section
/-! DEFINITION. The syntax of the machine's instructions: operand forms, the opcode key, and ONE constructor of
`Instr` per row of spec/opcode_table.json. -/

namespace Sys2Proof

/-- The 8-bit registers that the 3-bit register field reaches (R10, R23): codes 0 to 5 and 7. -/
inductive Reg8 where
  | b
  | c
  | d
  | e
  | h
  | l
  | a
  deriving DecidableEq, Repr

/-- The pair field `dd` or `ss`: codes 0 to 3 (R93). -/
inductive Pair where
  | bc
  | de
  | hl
  | sp
  deriving DecidableEq, Repr

/-- The pair field `qq` of PUSH and POP: codes 0 to 3 (R93). -/
inductive StackPair where
  | bc
  | de
  | hl
  | af
  deriving DecidableEq, Repr

/-- The pair field `pp` of ADD IX,pp: code 2 is IX (R93, R303). -/
inductive IxPair where
  | bc
  | de
  | ix
  | sp
  deriving DecidableEq, Repr

/-- The pair field `rr` of ADD IY,rr: code 2 is IY (R93, R304). -/
inductive IyPair where
  | bc
  | de
  | iy
  | sp
  deriving DecidableEq, Repr

/-- The condition field `cc`, codes 0 to 7 in this order (R16, R94). -/
inductive Cond where
  | nz
  | z
  | nc
  | c
  | po
  | pe
  | p
  | m
  deriving DecidableEq, Repr

/-- The opcode key: a tagged value (format, bits) (R92). The DDCB and FDCB keys hold the displacement, which
takes no part in selecting the handler. -/
inductive Key where
  | op (op : Byte)
  | cb (op : Byte)
  | ed (op : Byte)
  | dd (op : Byte)
  | fd (op : Byte)
  | ddcb (d op : Byte)
  | fdcb (d op : Byte)
  deriving DecidableEq, Repr

/-- One instruction with its operands; the class rows (a discarded prefix, an unknown key) are instructions
too, since the step algorithm gives each an effect (R97, R98). -/
inductive Instr where
  /-- `NOP`, table row NOP (OP), R285. -/
  | nop
  /-- `EX AF,AF'`, table row EX_AF_AF (OP), R191. -/
  | exAfAf
  /-- `DJNZ e`, table row DJNZ_e (OP), R400. -/
  | djnzE (e : Byte)
  /-- `JR e`, table row JR_e (OP), R392. -/
  | jrE (e : Byte)
  /-- `JR NZ,e`, table row JR_NZ_e (OP), R396. -/
  | jrNzE (e : Byte)
  /-- `JR Z,e`, table row JR_Z_e (OP), R395. -/
  | jrZE (e : Byte)
  /-- `JR NC,e`, table row JR_NC_e (OP), R394. -/
  | jrNcE (e : Byte)
  /-- `JR C,e`, table row JR_C_e (OP), R393. -/
  | jrCE (e : Byte)
  /-- `LD dd,nn`, table row LD_dd_nn (OP), R160. -/
  | ldDdNn (dd : Pair) (nn : Word)
  /-- `ADD HL,ss`, table row ADD_HL_ss (OP), R300. -/
  | addHlSs (ss : Pair)
  /-- `LD (BC),A`, table row LD__BC__A (OP), R144. -/
  | ldIndBcA
  /-- `LD A,(BC)`, table row LD_A__BC (OP), R141. -/
  | ldAIndBc
  /-- `LD (DE),A`, table row LD__DE__A (OP), R145. -/
  | ldIndDeA
  /-- `LD A,(DE)`, table row LD_A__DE (OP), R142. -/
  | ldAIndDe
  /-- `LD (nn),HL`, table row LD__nn__HL (OP), R167. -/
  | ldIndNnHl (nn : Word)
  /-- `LD HL,(nn)`, table row LD_HL__nn (OP), R163. -/
  | ldHlIndNn (nn : Word)
  /-- `LD (nn),A`, table row LD__nn__A (OP), R146. -/
  | ldIndNnA (nn : Word)
  /-- `LD A,(nn)`, table row LD_A__nn (OP), R143. -/
  | ldAIndNn (nn : Word)
  /-- `INC ss`, table row INC_ss (OP), R305. -/
  | incSs (ss : Pair)
  /-- `DEC ss`, table row DEC_ss (OP), R308. -/
  | decSs (ss : Pair)
  /-- `INC r`, table row INC_r (OP), R258. -/
  | incR (r : Reg8)
  /-- `INC (HL)`, table row INC__HL (OP), R259. -/
  | incIndHl
  /-- `DEC r`, table row DEC_r (OP), R262. -/
  | decR (r : Reg8)
  /-- `DEC (HL)`, table row DEC__HL (OP), R263. -/
  | decIndHl
  /-- `LD r,n`, table row LD_r_n (OP), R131. -/
  | ldRN (r : Reg8) (n : Byte)
  /-- `LD (HL),n`, table row LD__HL__n (OP), R138. -/
  | ldIndHlN (n : Byte)
  /-- `RLCA`, table row RLCA (OP), R320. -/
  | rlca
  /-- `RRCA`, table row RRCA (OP), R322. -/
  | rrca
  /-- `RLA`, table row RLA (OP), R321. -/
  | rla
  /-- `RRA`, table row RRA (OP), R323. -/
  | rra
  /-- `DAA`, table row DAA (OP), R280. -/
  | daa
  /-- `CPL`, table row CPL (OP), R281. -/
  | cpl
  /-- `SCF`, table row SCF (OP), R284. -/
  | scf
  /-- `CCF`, table row CCF (OP), R283. -/
  | ccf
  /-- `LD r,r'`, table row LD_r_r (OP), R130. -/
  | ldRR (r : Reg8) (r' : Reg8)
  /-- `LD r,(HL)`, table row LD_r__HL (OP), R132. -/
  | ldRIndHl (r : Reg8)
  /-- `LD (HL),r`, table row LD__HL__r (OP), R135. -/
  | ldIndHlR (r : Reg8)
  /-- `HALT`, table row HALT (OP), R286. -/
  | halt
  /-- `ADD A,r`, table row ADD_A_r (OP), R210. -/
  | addAR (r : Reg8)
  /-- `ADD A,n`, table row ADD_A_n (OP), R211. -/
  | addAN (n : Byte)
  /-- `ADD A,(HL)`, table row ADD_A__HL (OP), R212. -/
  | addAIndHl
  /-- `ADC A,r`, table row ADC_A_r (OP), R215. -/
  | adcAR (r : Reg8)
  /-- `ADC A,n`, table row ADC_A_n (OP), R216. -/
  | adcAN (n : Byte)
  /-- `ADC A,(HL)`, table row ADC_A__HL (OP), R217. -/
  | adcAIndHl
  /-- `SUB r`, table row SUB_r (OP), R220. -/
  | subR (r : Reg8)
  /-- `SUB n`, table row SUB_n (OP), R221. -/
  | subN (n : Byte)
  /-- `SUB (HL)`, table row SUB__HL (OP), R222. -/
  | subIndHl
  /-- `SBC A,r`, table row SBC_A_r (OP), R225. -/
  | sbcAR (r : Reg8)
  /-- `SBC A,n`, table row SBC_A_n (OP), R226. -/
  | sbcAN (n : Byte)
  /-- `SBC A,(HL)`, table row SBC_A__HL (OP), R227. -/
  | sbcAIndHl
  /-- `AND r`, table row AND_r (OP), R230. -/
  | andR (r : Reg8)
  /-- `AND n`, table row AND_n (OP), R231. -/
  | andN (n : Byte)
  /-- `AND (HL)`, table row AND__HL (OP), R232. -/
  | andIndHl
  /-- `XOR r`, table row XOR_r (OP), R235. -/
  | xorR (r : Reg8)
  /-- `XOR n`, table row XOR_n (OP), R236. -/
  | xorN (n : Byte)
  /-- `XOR (HL)`, table row XOR__HL (OP), R237. -/
  | xorIndHl
  /-- `OR r`, table row OR_r (OP), R240. -/
  | orR (r : Reg8)
  /-- `OR n`, table row OR_n (OP), R241. -/
  | orN (n : Byte)
  /-- `OR (HL)`, table row OR__HL (OP), R242. -/
  | orIndHl
  /-- `CP r`, table row CP_r (OP), R245. -/
  | cpR (r : Reg8)
  /-- `CP n`, table row CP_n (OP), R246. -/
  | cpN (n : Byte)
  /-- `CP (HL)`, table row CP__HL (OP), R247. -/
  | cpIndHl
  /-- `RET cc`, table row RET_cc (OP), R411. -/
  | retCc (cc : Cond)
  /-- `POP qq`, table row POP_qq (OP), R177. -/
  | popQq (qq : StackPair)
  /-- `RET`, table row RET (OP), R410. -/
  | ret
  /-- `EXX`, table row EXX (OP), R192. -/
  | exx
  /-- `JP (HL)`, table row JP__HL (OP), R397. -/
  | jpIndHl
  /-- `LD SP,HL`, table row LD_SP_HL (OP), R171. -/
  | ldSpHl
  /-- `JP cc,nn`, table row JP_cc_nn (OP), R391. -/
  | jpCcNn (cc : Cond) (nn : Word)
  /-- `JP nn`, table row JP_nn (OP), R390. -/
  | jpNn (nn : Word)
  /-- `OUT (n),A`, table row OUT__n__A (OP), R426. -/
  | outPortNA (n : Byte)
  /-- `IN A,(n)`, table row IN_A__n (OP), R420. -/
  | inAPortN (n : Byte)
  /-- `EX (SP),HL`, table row EX__SP__HL (OP), R193. -/
  | exIndSpHl
  /-- `EX DE,HL`, table row EX_DE_HL (OP), R190. -/
  | exDeHl
  /-- `DI`, table row DI (OP), R287. -/
  | di
  /-- `EI`, table row EI (OP), R289. -/
  | ei
  /-- `CALL cc,nn`, table row CALL_cc_nn (OP), R409. -/
  | callCcNn (cc : Cond) (nn : Word)
  /-- `PUSH qq`, table row PUSH_qq (OP), R174. -/
  | pushQq (qq : StackPair)
  /-- `CALL nn`, table row CALL_nn (OP), R408. -/
  | callNn (nn : Word)
  /-- `RST p`, table row RST_p (OP), R414. -/
  | rstP (t : BitVec 3)
  /-- `RLC r`, table row RLC_r (CB), R324. -/
  | rlcR (r : Reg8)
  /-- `RLC (HL)`, table row RLC__HL (CB), R325. -/
  | rlcIndHl
  /-- `RRC r`, table row RRC_r (CB), R328. -/
  | rrcR (r : Reg8)
  /-- `RRC (HL)`, table row RRC__HL (CB), R329. -/
  | rrcIndHl
  /-- `RL r`, table row RL_r (CB), R332. -/
  | rlR (r : Reg8)
  /-- `RL (HL)`, table row RL__HL (CB), R333. -/
  | rlIndHl
  /-- `RR r`, table row RR_r (CB), R336. -/
  | rrR (r : Reg8)
  /-- `RR (HL)`, table row RR__HL (CB), R337. -/
  | rrIndHl
  /-- `SLA r`, table row SLA_r (CB), R340. -/
  | slaR (r : Reg8)
  /-- `SLA (HL)`, table row SLA__HL (CB), R341. -/
  | slaIndHl
  /-- `SRA r`, table row SRA_r (CB), R344. -/
  | sraR (r : Reg8)
  /-- `SRA (HL)`, table row SRA__HL (CB), R345. -/
  | sraIndHl
  /-- `SLL r`, table row SLL_r (CB), R348. -/
  | sllR (r : Reg8)
  /-- `SLL (HL)`, table row SLL__HL (CB), R349. -/
  | sllIndHl
  /-- `SRL r`, table row SRL_r (CB), R352. -/
  | srlR (r : Reg8)
  /-- `SRL (HL)`, table row SRL__HL (CB), R353. -/
  | srlIndHl
  /-- `BIT b,r`, table row BIT_b_r (CB), R370. -/
  | bitBR (b : BitVec 3) (r : Reg8)
  /-- `BIT b,(HL)`, table row BIT_b__HL (CB), R371. -/
  | bitBIndHl (b : BitVec 3)
  /-- `RES b,r`, table row RES_b_r (CB), R378. -/
  | resBR (b : BitVec 3) (r : Reg8)
  /-- `RES b,(HL)`, table row RES_b__HL (CB), R379. -/
  | resBIndHl (b : BitVec 3)
  /-- `SET b,r`, table row SET_b_r (CB), R374. -/
  | setBR (b : BitVec 3) (r : Reg8)
  /-- `SET b,(HL)`, table row SET_b__HL (CB), R375. -/
  | setBIndHl (b : BitVec 3)
  /-- `IN r,(C)`, table row IN_r__C (ED), R421. -/
  | inRPortC (r : Reg8)
  /-- `OUT (C),r`, table row OUT__C__r (ED), R427. -/
  | outPortCR (r : Reg8)
  /-- `SBC HL,ss`, table row SBC_HL_ss (ED), R302. -/
  | sbcHlSs (ss : Pair)
  /-- `ADC HL,ss`, table row ADC_HL_ss (ED), R301. -/
  | adcHlSs (ss : Pair)
  /-- `LD (nn),dd`, table row LD__nn__dd (ED), R168. -/
  | ldIndNnDd (nn : Word) (dd : Pair)
  /-- `LD dd,(nn)`, table row LD_dd__nn (ED), R164. -/
  | ldDdIndNn (dd : Pair) (nn : Word)
  /-- `NEG`, table row NEG (ED), R282. -/
  | neg
  /-- `RETN`, table row RETN (ED), R413. -/
  | retn
  /-- `RETI`, table row RETI (ED), R412. -/
  | reti
  /-- `IM 0`, table row IM_0 (ED), R291. -/
  | im0
  /-- `IM 1`, table row IM_1 (ED), R292. -/
  | im1
  /-- `IM 2`, table row IM_2 (ED), R293. -/
  | im2
  /-- `LD I,A`, table row LD_I_A (ED), R149. -/
  | ldIA
  /-- `LD R,A`, table row LD_R_A (ED), R150. -/
  | ldRA
  /-- `LD A,I`, table row LD_A_I (ED), R147. -/
  | ldAI
  /-- `LD A,R`, table row LD_A_R (ED), R148. -/
  | ldAR
  /-- `RRD`, table row RRD (ED), R357. -/
  | rrd
  /-- `RLD`, table row RLD (ED), R356. -/
  | rld
  /-- `LDI`, table row LDI (ED), R197. -/
  | ldi
  /-- `CPI`, table row CPI (ED), R201. -/
  | cpi
  /-- `INI`, table row INI (ED), R422. -/
  | ini
  /-- `OUTI`, table row OUTI (ED), R428. -/
  | outi
  /-- `LDD`, table row LDD (ED), R199. -/
  | ldd
  /-- `CPD`, table row CPD (ED), R203. -/
  | cpd
  /-- `IND`, table row IND (ED), R424. -/
  | ind
  /-- `OUTD`, table row OUTD (ED), R430. -/
  | outd
  /-- `LDIR`, table row LDIR (ED), R198. -/
  | ldir
  /-- `CPIR`, table row CPIR (ED), R202. -/
  | cpir
  /-- `INIR`, table row INIR (ED), R423. -/
  | inir
  /-- `OTIR`, table row OTIR (ED), R429. -/
  | otir
  /-- `LDDR`, table row LDDR (ED), R200. -/
  | lddr
  /-- `CPDR`, table row CPDR (ED), R204. -/
  | cpdr
  /-- `INDR`, table row INDR (ED), R425. -/
  | indr
  /-- `OTDR`, table row OTDR (ED), R431. -/
  | otdr
  /-- `ADD IX,pp`, table row ADD_IX_pp (DD), R303. -/
  | addIxPp (pp : IxPair)
  /-- `LD IX,nn`, table row LD_IX_nn (DD), R161. -/
  | ldIxNn (nn : Word)
  /-- `LD (nn),IX`, table row LD__nn__IX (DD), R169. -/
  | ldIndNnIx (nn : Word)
  /-- `INC IX`, table row INC_IX (DD), R306. -/
  | incIx
  /-- `LD IX,(nn)`, table row LD_IX__nn (DD), R165. -/
  | ldIxIndNn (nn : Word)
  /-- `DEC IX`, table row DEC_IX (DD), R309. -/
  | decIx
  /-- `INC (IX+d)`, table row INC__IX+d (DD), R260. -/
  | incIxd (d : Byte)
  /-- `DEC (IX+d)`, table row DEC__IX+d (DD), R264. -/
  | decIxd (d : Byte)
  /-- `LD (IX+d),n`, table row LD__IX+d__n (DD), R139. -/
  | ldIxdN (d : Byte) (n : Byte)
  /-- `LD r,(IX+d)`, table row LD_r__IX+d (DD), R133. -/
  | ldRIxd (r : Reg8) (d : Byte)
  /-- `LD (IX+d),r`, table row LD__IX+d__r (DD), R136. -/
  | ldIxdR (d : Byte) (r : Reg8)
  /-- `ADD A,(IX+d)`, table row ADD_A__IX+d (DD), R213. -/
  | addAIxd (d : Byte)
  /-- `ADC A,(IX+d)`, table row ADC_A__IX+d (DD), R218. -/
  | adcAIxd (d : Byte)
  /-- `SUB (IX+d)`, table row SUB__IX+d (DD), R223. -/
  | subIxd (d : Byte)
  /-- `SBC A,(IX+d)`, table row SBC_A__IX+d (DD), R228. -/
  | sbcAIxd (d : Byte)
  /-- `AND (IX+d)`, table row AND__IX+d (DD), R233. -/
  | andIxd (d : Byte)
  /-- `XOR (IX+d)`, table row XOR__IX+d (DD), R238. -/
  | xorIxd (d : Byte)
  /-- `OR (IX+d)`, table row OR__IX+d (DD), R243. -/
  | orIxd (d : Byte)
  /-- `CP (IX+d)`, table row CP__IX+d (DD), R248. -/
  | cpIxd (d : Byte)
  /-- `POP IX`, table row POP_IX (DD), R178. -/
  | popIx
  /-- `EX (SP),IX`, table row EX__SP__IX (DD), R194. -/
  | exIndSpIx
  /-- `PUSH IX`, table row PUSH_IX (DD), R175. -/
  | pushIx
  /-- `JP (IX)`, table row JP__IX (DD), R398. -/
  | jpIndIx
  /-- `LD SP,IX`, table row LD_SP_IX (DD), R172. -/
  | ldSpIx
  /-- `RLC (IX+d)`, table row RLC__IX+d (DDCB), R326. -/
  | rlcIxd (d : Byte)
  /-- `RRC (IX+d)`, table row RRC__IX+d (DDCB), R330. -/
  | rrcIxd (d : Byte)
  /-- `RL (IX+d)`, table row RL__IX+d (DDCB), R334. -/
  | rlIxd (d : Byte)
  /-- `RR (IX+d)`, table row RR__IX+d (DDCB), R338. -/
  | rrIxd (d : Byte)
  /-- `SLA (IX+d)`, table row SLA__IX+d (DDCB), R342. -/
  | slaIxd (d : Byte)
  /-- `SRA (IX+d)`, table row SRA__IX+d (DDCB), R346. -/
  | sraIxd (d : Byte)
  /-- `SLL (IX+d)`, table row SLL__IX+d (DDCB), R350. -/
  | sllIxd (d : Byte)
  /-- `SRL (IX+d)`, table row SRL__IX+d (DDCB), R354. -/
  | srlIxd (d : Byte)
  /-- `BIT b,(IX+d)`, table row BIT_b__IX+d (DDCB), R372. -/
  | bitBIxd (b : BitVec 3) (d : Byte)
  /-- `RES b,(IX+d)`, table row RES_b__IX+d (DDCB), R380. -/
  | resBIxd (b : BitVec 3) (d : Byte)
  /-- `SET b,(IX+d)`, table row SET_b__IX+d (DDCB), R376. -/
  | setBIxd (b : BitVec 3) (d : Byte)
  /-- `ADD IY,rr`, table row ADD_IY_rr (FD), R304. -/
  | addIyRr (rr : IyPair)
  /-- `LD IY,nn`, table row LD_IY_nn (FD), R162. -/
  | ldIyNn (nn : Word)
  /-- `LD (nn),IY`, table row LD__nn__IY (FD), R170. -/
  | ldIndNnIy (nn : Word)
  /-- `INC IY`, table row INC_IY (FD), R307. -/
  | incIy
  /-- `LD IY,(nn)`, table row LD_IY__nn (FD), R166. -/
  | ldIyIndNn (nn : Word)
  /-- `DEC IY`, table row DEC_IY (FD), R310. -/
  | decIy
  /-- `INC (IY+d)`, table row INC__IY+d (FD), R261. -/
  | incIyd (d : Byte)
  /-- `DEC (IY+d)`, table row DEC__IY+d (FD), R265. -/
  | decIyd (d : Byte)
  /-- `LD (IY+d),n`, table row LD__IY+d__n (FD), R140. -/
  | ldIydN (d : Byte) (n : Byte)
  /-- `LD r,(IY+d)`, table row LD_r__IY+d (FD), R134. -/
  | ldRIyd (r : Reg8) (d : Byte)
  /-- `LD (IY+d),r`, table row LD__IY+d__r (FD), R137. -/
  | ldIydR (d : Byte) (r : Reg8)
  /-- `ADD A,(IY+d)`, table row ADD_A__IY+d (FD), R214. -/
  | addAIyd (d : Byte)
  /-- `ADC A,(IY+d)`, table row ADC_A__IY+d (FD), R219. -/
  | adcAIyd (d : Byte)
  /-- `SUB (IY+d)`, table row SUB__IY+d (FD), R224. -/
  | subIyd (d : Byte)
  /-- `SBC A,(IY+d)`, table row SBC_A__IY+d (FD), R229. -/
  | sbcAIyd (d : Byte)
  /-- `AND (IY+d)`, table row AND__IY+d (FD), R234. -/
  | andIyd (d : Byte)
  /-- `XOR (IY+d)`, table row XOR__IY+d (FD), R239. -/
  | xorIyd (d : Byte)
  /-- `OR (IY+d)`, table row OR__IY+d (FD), R244. -/
  | orIyd (d : Byte)
  /-- `CP (IY+d)`, table row CP__IY+d (FD), R249. -/
  | cpIyd (d : Byte)
  /-- `POP IY`, table row POP_IY (FD), R179. -/
  | popIy
  /-- `EX (SP),IY`, table row EX__SP__IY (FD), R195. -/
  | exIndSpIy
  /-- `PUSH IY`, table row PUSH_IY (FD), R176. -/
  | pushIy
  /-- `JP (IY)`, table row JP__IY (FD), R399. -/
  | jpIndIy
  /-- `LD SP,IY`, table row LD_SP_IY (FD), R173. -/
  | ldSpIy
  /-- `RLC (IY+d)`, table row RLC__IY+d (FDCB), R327. -/
  | rlcIyd (d : Byte)
  /-- `RRC (IY+d)`, table row RRC__IY+d (FDCB), R331. -/
  | rrcIyd (d : Byte)
  /-- `RL (IY+d)`, table row RL__IY+d (FDCB), R335. -/
  | rlIyd (d : Byte)
  /-- `RR (IY+d)`, table row RR__IY+d (FDCB), R339. -/
  | rrIyd (d : Byte)
  /-- `SLA (IY+d)`, table row SLA__IY+d (FDCB), R343. -/
  | slaIyd (d : Byte)
  /-- `SRA (IY+d)`, table row SRA__IY+d (FDCB), R347. -/
  | sraIyd (d : Byte)
  /-- `SLL (IY+d)`, table row SLL__IY+d (FDCB), R351. -/
  | sllIyd (d : Byte)
  /-- `SRL (IY+d)`, table row SRL__IY+d (FDCB), R355. -/
  | srlIyd (d : Byte)
  /-- `BIT b,(IY+d)`, table row BIT_b__IY+d (FDCB), R373. -/
  | bitBIyd (b : BitVec 3) (d : Byte)
  /-- `RES b,(IY+d)`, table row RES_b__IY+d (FDCB), R381. -/
  | resBIyd (b : BitVec 3) (d : Byte)
  /-- `SET b,(IY+d)`, table row SET_b__IY+d (FDCB), R377. -/
  | setBIyd (b : BitVec 3) (d : Byte)
  /-- `(unknown: half-index key)`, table row unknown__half-index_key (DD), R98. -/
  | unknownHalfIndexDd (op : Byte)
  /-- `(discarded prefix)`, table row discarded_prefix (DD), R97. -/
  | discardedPrefixDd (op : Byte)
  /-- `(unknown: DDCB with z != 6)`, table row unknown__DDCB_with_z____6 (DDCB), R98. -/
  | unknownDdcb (d : Byte) (op : Byte)
  /-- `(unknown: half-index key)`, table row unknown__half-index_key (FD), R98. -/
  | unknownHalfIndexFd (op : Byte)
  /-- `(discarded prefix)`, table row discarded_prefix (FD), R97. -/
  | discardedPrefixFd (op : Byte)
  /-- `(unknown: FDCB with z != 6)`, table row unknown__FDCB_with_z____6 (FDCB), R98. -/
  | unknownFdcb (d : Byte) (op : Byte)
  /-- `(unknown: undefined ED key)`, table row unknown__undefined_ED_key (ED), R98. -/
  | unknownEd (op : Byte)
  deriving DecidableEq, Repr

end Sys2Proof
end

