-- ==== Sys2Proof/Machine/Keys.lean ====
section
/-! DEFINITION. The sets of second bytes that the decode rules list: the half-index keys (R98(c)), the discard
set (R97) and the undefined ED keys (R98(b)). -/

namespace Sys2Proof.Keys

/-- Is the byte inside one of the closed ranges? -/
def inRanges (b : Byte) : List (Nat × Nat) → Bool
  | [] => false
  | (lo, hi) :: rest => (lo ≤ b.toNat && b.toNat ≤ hi) || inRanges b rest

/-- Second bytes of DD and FD whose meaning would use IXH, IXL, IYH or IYL: 46 values (R98(c), D3). -/
def halfIndex : List (Nat × Nat) :=
  [(0x24, 0x26), (0x2C, 0x2E), (0x44, 0x45), (0x4C, 0x4D), (0x54, 0x55), (0x5C, 0x5D), (0x60, 0x65),
   (0x67, 0x6D), (0x6F, 0x6F), (0x7C, 0x7D), (0x84, 0x85), (0x8C, 0x8D), (0x94, 0x95), (0x9C, 0x9D),
   (0xA4, 0xA5), (0xAC, 0xAD), (0xB4, 0xB5), (0xBC, 0xBD)]

/-- `DiscardSet`: second bytes of DD and FD that discard the prefix: 170 values (R97, D2). -/
def discard : List (Nat × Nat) :=
  [(0x00, 0x08), (0x0A, 0x18), (0x1A, 0x20), (0x27, 0x28), (0x2F, 0x33), (0x37, 0x38), (0x3A, 0x43),
   (0x47, 0x4B), (0x4F, 0x53), (0x57, 0x5B), (0x5F, 0x5F), (0x76, 0x76), (0x78, 0x7B), (0x7F, 0x83),
   (0x87, 0x8B), (0x8F, 0x93), (0x97, 0x9B), (0x9F, 0xA3), (0xA7, 0xAB), (0xAF, 0xB3), (0xB7, 0xBB),
   (0xBF, 0xCA), (0xCC, 0xE0), (0xE2, 0xE2), (0xE4, 0xE4), (0xE6, 0xE8), (0xEA, 0xF8), (0xFA, 0xFF)]

/-- Second bytes of ED that no instruction owns: 198 values (R98(b), D4). -/
def undefinedEd : List (Nat × Nat) :=
  [(0x00, 0x3F), (0x4C, 0x4C), (0x4E, 0x4E), (0x54, 0x55), (0x5C, 0x5D), (0x64, 0x66), (0x6C, 0x6E),
   (0x70, 0x71), (0x74, 0x77), (0x7C, 0x9F), (0xA4, 0xA7), (0xAC, 0xAF), (0xB4, 0xB7), (0xBC, 0xFF)]

/-- A DD or FD second byte that names half of an index register. -/
def isHalfIndex (op : Byte) : Bool := inRanges op halfIndex

/-- A DD or FD second byte at which the prefix is discarded. -/
def isDiscard (op : Byte) : Bool := inRanges op discard

/-- An ED second byte with no instruction. -/
def isUndefinedEd (op : Byte) : Bool := inRanges op undefinedEd

/-- A DDCB or FDCB fourth byte with no instruction: `z != 6` (R98(d), D4). -/
def isUndefinedIndexedCb (op : Byte) : Bool := op.extractLsb' 0 3 != 6#3

end Sys2Proof.Keys
end

