-- ==== Sys2Proof/WellFormed.lean ====
section
/-! DEFINITION. Which terms of `Instr` stand for instructions: the operand types admit only encodable operands,
so the checks that remain are those of the class rows (R97, R98). -/

namespace Sys2Proof

/-- An instruction is well formed when its operands are ones an encoding can hold: a class row takes only the
second or fourth bytes its rule lists. -/
def Instr.wellFormed : Instr → Bool
  | .nop | .exAfAf | .djnzE _ | .jrE _ | .jrNzE _ | .jrZE _ | .jrNcE _ | .jrCE _ | .ldDdNn _ _ | .addHlSs _
  | .ldIndBcA | .ldAIndBc | .ldIndDeA | .ldAIndDe | .ldIndNnHl _ | .ldHlIndNn _ | .ldIndNnA _ | .ldAIndNn _
  | .incSs _ | .decSs _ | .incR _ | .incIndHl | .decR _ | .decIndHl | .ldRN _ _ | .ldIndHlN _ | .rlca
  | .rrca | .rla | .rra | .daa | .cpl | .scf | .ccf | .ldRR _ _ | .ldRIndHl _ | .ldIndHlR _ | .halt
  | .addAR _ | .addAN _ | .addAIndHl | .adcAR _ | .adcAN _ | .adcAIndHl | .subR _ | .subN _ | .subIndHl
  | .sbcAR _ | .sbcAN _ | .sbcAIndHl | .andR _ | .andN _ | .andIndHl | .xorR _ | .xorN _ | .xorIndHl
  | .orR _ | .orN _ | .orIndHl | .cpR _ | .cpN _ | .cpIndHl | .retCc _ | .popQq _ | .ret | .exx | .jpIndHl
  | .ldSpHl | .jpCcNn _ _ | .jpNn _ | .outPortNA _ | .inAPortN _ | .exIndSpHl | .exDeHl | .di | .ei
  | .callCcNn _ _ | .pushQq _ | .callNn _ | .rstP _ | .rlcR _ | .rlcIndHl | .rrcR _ | .rrcIndHl | .rlR _
  | .rlIndHl | .rrR _ | .rrIndHl | .slaR _ | .slaIndHl | .sraR _ | .sraIndHl | .sllR _ | .sllIndHl | .srlR _
  | .srlIndHl | .bitBR _ _ | .bitBIndHl _ | .resBR _ _ | .resBIndHl _ | .setBR _ _ | .setBIndHl _
  | .inRPortC _ | .outPortCR _ | .sbcHlSs _ | .adcHlSs _ | .ldIndNnDd _ _ | .ldDdIndNn _ _ | .neg | .retn
  | .reti | .im0 | .im1 | .im2 | .ldIA | .ldRA | .ldAI | .ldAR | .rrd | .rld | .ldi | .cpi | .ini | .outi
  | .ldd | .cpd | .ind | .outd | .ldir | .cpir | .inir | .otir | .lddr | .cpdr | .indr | .otdr | .addIxPp _
  | .ldIxNn _ | .ldIndNnIx _ | .incIx | .ldIxIndNn _ | .decIx | .incIxd _ | .decIxd _ | .ldIxdN _ _
  | .ldRIxd _ _ | .ldIxdR _ _ | .addAIxd _ | .adcAIxd _ | .subIxd _ | .sbcAIxd _ | .andIxd _ | .xorIxd _
  | .orIxd _ | .cpIxd _ | .popIx | .exIndSpIx | .pushIx | .jpIndIx | .ldSpIx | .rlcIxd _ | .rrcIxd _
  | .rlIxd _ | .rrIxd _ | .slaIxd _ | .sraIxd _ | .sllIxd _ | .srlIxd _ | .bitBIxd _ _ | .resBIxd _ _
  | .setBIxd _ _ | .addIyRr _ | .ldIyNn _ | .ldIndNnIy _ | .incIy | .ldIyIndNn _ | .decIy | .incIyd _
  | .decIyd _ | .ldIydN _ _ | .ldRIyd _ _ | .ldIydR _ _ | .addAIyd _ | .adcAIyd _ | .subIyd _ | .sbcAIyd _
  | .andIyd _ | .xorIyd _ | .orIyd _ | .cpIyd _ | .popIy | .exIndSpIy | .pushIy | .jpIndIy | .ldSpIy
  | .rlcIyd _ | .rrcIyd _ | .rlIyd _ | .rrIyd _ | .slaIyd _ | .sraIyd _ | .sllIyd _ | .srlIyd _
  | .bitBIyd _ _ | .resBIyd _ _ | .setBIyd _ _ => true
  | .unknownHalfIndexDd op => Keys.isHalfIndex op
  | .discardedPrefixDd op => Keys.isDiscard op
  | .unknownDdcb _ op => Keys.isUndefinedIndexedCb op
  | .unknownHalfIndexFd op => Keys.isHalfIndex op
  | .discardedPrefixFd op => Keys.isDiscard op
  | .unknownFdcb _ op => Keys.isUndefinedIndexedCb op
  | .unknownEd op => Keys.isUndefinedEd op

/-- Well-formedness as a proposition. -/
abbrev Instr.WellFormed (i : Instr) : Prop := i.wellFormed = true

end Sys2Proof
end

