-- ==== Sys2Proof/Decode.lean ====
section
/-! DEFINITION. Decoding and encoding (30_encoding.md). `decode4` is total on any four bytes (every key of every
format matches exactly one row, R96); `decode` reads a byte list and rejects by name a list that ends inside an
instruction. `encode`, after it, is written from the encoding table's rows. -/

namespace Sys2Proof

/-! ### Fields of the opcode byte (R93) -/

/-- `x = op[7:6]` (R93). -/
def fieldX (op : Byte) : BitVec 2 := op.extractLsb' 6 2

/-- `y = op[5:3]` (R93). -/
def fieldY (op : Byte) : BitVec 3 := op.extractLsb' 3 3

/-- `z = op[2:0]` (R93). -/
def fieldZ (op : Byte) : BitVec 3 := op.extractLsb' 0 3

/-- `p = op[5:4]` (R93). -/
def fieldP (op : Byte) : BitVec 2 := op.extractLsb' 4 2

/-- `q = op[3]` (R93). -/
def fieldQ (op : Byte) : Bool := op.getLsbD 3

/-- The 16-bit operand `nn` of two trailing bytes, low byte first (R95, R12). -/
def wordOfBytes (lo hi : Byte) : Word := hi ++ lo

/-- Bits 7:0 of a word. -/
def loByte (w : Word) : Byte := w.extractLsb' 0 8

/-- Bits 15:8 of a word. -/
def hiByte (w : Word) : Byte := w.extractLsb' 8 8

/-- The register of the 3-bit code; code 6 is never a register (R10). -/
def Reg8.ofCode (k : BitVec 3) : Option Reg8 :=
  match k.toNat with
  | 0 => some .b
  | 1 => some .c
  | 2 => some .d
  | 3 => some .e
  | 4 => some .h
  | 5 => some .l
  | 7 => some .a
  | _ => none

/-- `dd` and `ss` codes (R93). -/
def Pair.ofCode (k : BitVec 2) : Pair :=
  match k.toNat with
  | 0 => .bc
  | 1 => .de
  | 2 => .hl
  | _ => .sp

/-- `qq` codes (R93). -/
def StackPair.ofCode (k : BitVec 2) : StackPair :=
  match k.toNat with
  | 0 => .bc
  | 1 => .de
  | 2 => .hl
  | _ => .af

/-- `pp` codes (R93). -/
def IxPair.ofCode (k : BitVec 2) : IxPair :=
  match k.toNat with
  | 0 => .bc
  | 1 => .de
  | 2 => .ix
  | _ => .sp

/-- `rr` codes (R93). -/
def IyPair.ofCode (k : BitVec 2) : IyPair :=
  match k.toNat with
  | 0 => .bc
  | 1 => .de
  | 2 => .iy
  | _ => .sp

/-- Condition codes, in the fixed order NZ, Z, NC, C, PO, PE, P, M (R16, R94). -/
def Cond.ofCode (k : BitVec 3) : Cond :=
  match k.toNat with
  | 0 => .nz
  | 1 => .z
  | 2 => .nc
  | 3 => .c
  | 4 => .po
  | 5 => .pe
  | 6 => .p
  | _ => .m

/-! ### Key formation (R91, R92) -/

/-- The opcode key that the step forms from the bytes at PC (R91). -/
def formKey (b0 b1 b2 b3 : Byte) : Key :=
  if b0 = 0xCB#8 then .cb b1
  else if b0 = 0xED#8 then .ed b1
  else if b0 = 0xDD#8 then (if b1 = 0xCB#8 then .ddcb b2 b3 else .dd b1)
  else if b0 = 0xFD#8 then (if b1 = 0xCB#8 then .fdcb b2 b3 else .fd b1)
  else .op b0

/-- The key as packed by R92: the bytes in order, the prefix in the high byte. -/
def Key.bits : Key → BitVec 32
  | .op k => 0x000000#24 ++ k
  | .cb k => 0x0000CB#24 ++ k
  | .ed k => 0x0000ED#24 ++ k
  | .dd k => 0x0000DD#24 ++ k
  | .fd k => 0x0000FD#24 ++ k
  | .ddcb d k => 0xDDCB#16 ++ d ++ k
  | .fdcb d k => 0xFDCB#16 ++ d ++ k

/-- How many bytes the key takes: what PC has advanced by when dispatch begins (R91). -/
def Key.size : Key → Nat
  | .op _ => 1
  | .cb _ | .ed _ | .dd _ | .fd _ => 2
  | .ddcb _ _ | .fdcb _ _ => 4

/-! ### Dispatch by format (R96) -/

/-- The ALU operation `y` on a register (R93, R99). -/
def decodeAluR (y : BitVec 3) (r : Reg8) : Instr :=
  match y.toNat with
  | 0 => .addAR r
  | 1 => .adcAR r
  | 2 => .subR r
  | 3 => .sbcAR r
  | 4 => .andR r
  | 5 => .xorR r
  | 6 => .orR r
  | _ => .cpR r

/-- The ALU operation `y` on (HL) (R93, R99). -/
def decodeAluHl (y : BitVec 3) : Instr :=
  match y.toNat with
  | 0 => .addAIndHl
  | 1 => .adcAIndHl
  | 2 => .subIndHl
  | 3 => .sbcAIndHl
  | 4 => .andIndHl
  | 5 => .xorIndHl
  | 6 => .orIndHl
  | _ => .cpIndHl

/-- The ALU operation `y` on an immediate (R93, R99). -/
def decodeAluN (y : BitVec 3) (n : Byte) : Instr :=
  match y.toNat with
  | 0 => .addAN n
  | 1 => .adcAN n
  | 2 => .subN n
  | 3 => .sbcAN n
  | 4 => .andN n
  | 5 => .xorN n
  | 6 => .orN n
  | _ => .cpN n

/-- Format OP, `x = 0` (R99). -/
def decodeOp0 (op n1 n2 : Byte) : Instr :=
  let y := fieldY op
  let nn := wordOfBytes n1 n2
  match (fieldZ op).toNat with
  | 0 =>
    match y.toNat with
    | 0 => .nop
    | 1 => .exAfAf
    | 2 => .djnzE n1
    | 3 => .jrE n1
    | 4 => .jrNzE n1
    | 5 => .jrZE n1
    | 6 => .jrNcE n1
    | _ => .jrCE n1
  | 1 =>
    if fieldQ op then .addHlSs (Pair.ofCode (fieldP op)) else .ldDdNn (Pair.ofCode (fieldP op)) nn
  | 2 =>
    match y.toNat with
    | 0 => .ldIndBcA
    | 1 => .ldAIndBc
    | 2 => .ldIndDeA
    | 3 => .ldAIndDe
    | 4 => .ldIndNnHl nn
    | 5 => .ldHlIndNn nn
    | 6 => .ldIndNnA nn
    | _ => .ldAIndNn nn
  | 3 => if fieldQ op then .decSs (Pair.ofCode (fieldP op)) else .incSs (Pair.ofCode (fieldP op))
  | 4 =>
    match Reg8.ofCode y with
    | some r => .incR r
    | none => .incIndHl
  | 5 =>
    match Reg8.ofCode y with
    | some r => .decR r
    | none => .decIndHl
  | 6 =>
    match Reg8.ofCode y with
    | some r => .ldRN r n1
    | none => .ldIndHlN n1
  | _ =>
    match y.toNat with
    | 0 => .rlca
    | 1 => .rrca
    | 2 => .rla
    | 3 => .rra
    | 4 => .daa
    | 5 => .cpl
    | 6 => .scf
    | _ => .ccf

/-- Format OP, `x = 1`: the register loads and HALT (R99). -/
def decodeOp1 (op : Byte) : Instr :=
  match Reg8.ofCode (fieldY op), Reg8.ofCode (fieldZ op) with
  | some r, some r' => .ldRR r r'
  | some r, none => .ldRIndHl r
  | none, some r => .ldIndHlR r
  | none, none => .halt

/-- Format OP, `x = 2`: the ALU on a register or (HL) (R99). -/
def decodeOp2 (op : Byte) : Instr :=
  match Reg8.ofCode (fieldZ op) with
  | some r => decodeAluR (fieldY op) r
  | none => decodeAluHl (fieldY op)

/-- Format OP, `x = 3` (R99). The prefixes CB, DD, ED and FD never reach it: `formKey` takes them. -/
def decodeOp3 (op n1 n2 : Byte) : Instr :=
  let y := fieldY op
  let nn := wordOfBytes n1 n2
  match (fieldZ op).toNat with
  | 0 => .retCc (Cond.ofCode y)
  | 1 =>
    if fieldQ op then
      match (fieldP op).toNat with
      | 0 => .ret
      | 1 => .exx
      | 2 => .jpIndHl
      | _ => .ldSpHl
    else .popQq (StackPair.ofCode (fieldP op))
  | 2 => .jpCcNn (Cond.ofCode y) nn
  | 3 =>
    match y.toNat with
    | 0 => .jpNn nn
    | 2 => .outPortNA n1
    | 3 => .inAPortN n1
    | 4 => .exIndSpHl
    | 5 => .exDeHl
    | 6 => .di
    | _ => .ei
  | 4 => .callCcNn (Cond.ofCode y) nn
  | 5 => if fieldQ op then .callNn nn else .pushQq (StackPair.ofCode (fieldP op))
  | 6 => decodeAluN y n1
  | _ => .rstP y

/-- Format OP (R99). -/
def decodeOp (op n1 n2 : Byte) : Instr :=
  match (fieldX op).toNat with
  | 0 => decodeOp0 op n1 n2
  | 1 => decodeOp1 op
  | 2 => decodeOp2 op
  | _ => decodeOp3 op n1 n2

/-- Format CB: all 256 second bytes are defined (R100). -/
def decodeCb (op : Byte) : Instr :=
  let y := fieldY op
  match (fieldX op).toNat, Reg8.ofCode (fieldZ op) with
  | 0, some r =>
    match y.toNat with
    | 0 => .rlcR r
    | 1 => .rrcR r
    | 2 => .rlR r
    | 3 => .rrR r
    | 4 => .slaR r
    | 5 => .sraR r
    | 6 => .sllR r
    | _ => .srlR r
  | 0, none =>
    match y.toNat with
    | 0 => .rlcIndHl
    | 1 => .rrcIndHl
    | 2 => .rlIndHl
    | 3 => .rrIndHl
    | 4 => .slaIndHl
    | 5 => .sraIndHl
    | 6 => .sllIndHl
    | _ => .srlIndHl
  | 1, some r => .bitBR y r
  | 1, none => .bitBIndHl y
  | 2, some r => .resBR y r
  | 2, none => .resBIndHl y
  | _, some r => .setBR y r
  | _, none => .setBIndHl y

/-- Format ED, `x = 1` (R101); a byte outside the defined values is unknown (R98(b)). -/
def decodeEd1 (op n1 n2 : Byte) : Instr :=
  let nn := wordOfBytes n1 n2
  match (fieldZ op).toNat with
  | 0 =>
    match Reg8.ofCode (fieldY op) with
    | some r => .inRPortC r
    | none => .unknownEd op
  | 1 =>
    match Reg8.ofCode (fieldY op) with
    | some r => .outPortCR r
    | none => .unknownEd op
  | 2 => if fieldQ op then .adcHlSs (Pair.ofCode (fieldP op)) else .sbcHlSs (Pair.ofCode (fieldP op))
  | 3 =>
    if fieldQ op then .ldDdIndNn (Pair.ofCode (fieldP op)) nn else .ldIndNnDd nn (Pair.ofCode (fieldP op))
  | 4 => if op = 0x44#8 then .neg else .unknownEd op
  | 5 => if op = 0x45#8 then .retn else if op = 0x4D#8 then .reti else .unknownEd op
  | 6 =>
    if op = 0x46#8 then .im0
    else if op = 0x56#8 then .im1
    else if op = 0x5E#8 then .im2
    else .unknownEd op
  | _ =>
    match (fieldY op).toNat with
    | 0 => .ldIA
    | 1 => .ldRA
    | 2 => .ldAI
    | 3 => .ldAR
    | 4 => .rrd
    | 5 => .rld
    | _ => .unknownEd op

/-- Format ED, `x = 2`: the sixteen block instructions (R101). -/
def decodeEd2 (op : Byte) : Instr :=
  match (fieldY op).toNat, (fieldZ op).toNat with
  | 4, 0 => .ldi
  | 4, 1 => .cpi
  | 4, 2 => .ini
  | 4, 3 => .outi
  | 5, 0 => .ldd
  | 5, 1 => .cpd
  | 5, 2 => .ind
  | 5, 3 => .outd
  | 6, 0 => .ldir
  | 6, 1 => .cpir
  | 6, 2 => .inir
  | 6, 3 => .otir
  | 7, 0 => .lddr
  | 7, 1 => .cpdr
  | 7, 2 => .indr
  | 7, 3 => .otdr
  | _, _ => .unknownEd op

/-- Format ED (R101). -/
def decodeEd (op n1 n2 : Byte) : Instr :=
  match (fieldX op).toNat with
  | 1 => decodeEd1 op n1 n2
  | 2 => decodeEd2 op
  | _ => .unknownEd op

/-- Format DD (R102): the 39 defined second bytes, then the half-index keys (R98(c)); every other second
byte discards the prefix (R97). `n1` is the first trailing byte (`d` or the low byte of `nn`). -/
def decodeDd (op n1 n2 : Byte) : Instr :=
  let nn := wordOfBytes n1 n2
  let other : Instr := if Keys.isHalfIndex op then .unknownHalfIndexDd op else .discardedPrefixDd op
  match (fieldX op).toNat, (fieldZ op).toNat with
  | 0, 1 =>
    if fieldQ op then .addIxPp (IxPair.ofCode (fieldP op))
    else if op = 0x21#8 then .ldIxNn nn
    else other
  | 0, 2 => if op = 0x22#8 then .ldIndNnIx nn else if op = 0x2A#8 then .ldIxIndNn nn else other
  | 0, 3 => if op = 0x23#8 then .incIx else if op = 0x2B#8 then .decIx else other
  | 0, 4 => if op = 0x34#8 then .incIxd n1 else other
  | 0, 5 => if op = 0x35#8 then .decIxd n1 else other
  | 0, 6 => if op = 0x36#8 then .ldIxdN n1 n2 else other
  | 1, 6 =>
    match Reg8.ofCode (fieldY op) with
    | some r => .ldRIxd r n1
    | none => other
  | 1, _ =>
    if fieldY op = 6#3 then
      match Reg8.ofCode (fieldZ op) with
      | some r => .ldIxdR n1 r
      | none => other
    else other
  | 2, 6 =>
    match (fieldY op).toNat with
    | 0 => .addAIxd n1
    | 1 => .adcAIxd n1
    | 2 => .subIxd n1
    | 3 => .sbcAIxd n1
    | 4 => .andIxd n1
    | 5 => .xorIxd n1
    | 6 => .orIxd n1
    | _ => .cpIxd n1
  | 3, 1 =>
    if op = 0xE1#8 then .popIx
    else if op = 0xE9#8 then .jpIndIx
    else if op = 0xF9#8 then .ldSpIx
    else other
  | 3, 3 => if op = 0xE3#8 then .exIndSpIx else other
  | 3, 5 => if op = 0xE5#8 then .pushIx else other
  | _, _ => other

/-- Format DDCB (R103): defined only when `z = 6`; the displacement is the third byte, `op` the fourth. -/
def decodeDdcb (d op : Byte) : Instr :=
  if fieldZ op = 6#3 then
    match (fieldX op).toNat with
    | 0 =>
      match (fieldY op).toNat with
      | 0 => .rlcIxd d
      | 1 => .rrcIxd d
      | 2 => .rlIxd d
      | 3 => .rrIxd d
      | 4 => .slaIxd d
      | 5 => .sraIxd d
      | 6 => .sllIxd d
      | _ => .srlIxd d
    | 1 => .bitBIxd (fieldY op) d
    | 2 => .resBIxd (fieldY op) d
    | _ => .setBIxd (fieldY op) d
  else .unknownDdcb d op

/-- Format FD (R102): the 39 defined second bytes, then the half-index keys (R98(c)); every other second
byte discards the prefix (R97). `n1` is the first trailing byte (`d` or the low byte of `nn`). -/
def decodeFd (op n1 n2 : Byte) : Instr :=
  let nn := wordOfBytes n1 n2
  let other : Instr := if Keys.isHalfIndex op then .unknownHalfIndexFd op else .discardedPrefixFd op
  match (fieldX op).toNat, (fieldZ op).toNat with
  | 0, 1 =>
    if fieldQ op then .addIyRr (IyPair.ofCode (fieldP op))
    else if op = 0x21#8 then .ldIyNn nn
    else other
  | 0, 2 => if op = 0x22#8 then .ldIndNnIy nn else if op = 0x2A#8 then .ldIyIndNn nn else other
  | 0, 3 => if op = 0x23#8 then .incIy else if op = 0x2B#8 then .decIy else other
  | 0, 4 => if op = 0x34#8 then .incIyd n1 else other
  | 0, 5 => if op = 0x35#8 then .decIyd n1 else other
  | 0, 6 => if op = 0x36#8 then .ldIydN n1 n2 else other
  | 1, 6 =>
    match Reg8.ofCode (fieldY op) with
    | some r => .ldRIyd r n1
    | none => other
  | 1, _ =>
    if fieldY op = 6#3 then
      match Reg8.ofCode (fieldZ op) with
      | some r => .ldIydR n1 r
      | none => other
    else other
  | 2, 6 =>
    match (fieldY op).toNat with
    | 0 => .addAIyd n1
    | 1 => .adcAIyd n1
    | 2 => .subIyd n1
    | 3 => .sbcAIyd n1
    | 4 => .andIyd n1
    | 5 => .xorIyd n1
    | 6 => .orIyd n1
    | _ => .cpIyd n1
  | 3, 1 =>
    if op = 0xE1#8 then .popIy
    else if op = 0xE9#8 then .jpIndIy
    else if op = 0xF9#8 then .ldSpIy
    else other
  | 3, 3 => if op = 0xE3#8 then .exIndSpIy else other
  | 3, 5 => if op = 0xE5#8 then .pushIy else other
  | _, _ => other

/-- Format FDCB (R103): defined only when `z = 6`; the displacement is the third byte, `op` the fourth. -/
def decodeFdcb (d op : Byte) : Instr :=
  if fieldZ op = 6#3 then
    match (fieldX op).toNat with
    | 0 =>
      match (fieldY op).toNat with
      | 0 => .rlcIyd d
      | 1 => .rrcIyd d
      | 2 => .rlIyd d
      | 3 => .rrIyd d
      | 4 => .slaIyd d
      | 5 => .sraIyd d
      | 6 => .sllIyd d
      | _ => .srlIyd d
    | 1 => .bitBIyd (fieldY op) d
    | 2 => .resBIyd (fieldY op) d
    | _ => .setBIyd (fieldY op) d
  else .unknownFdcb d op

/-- The instruction that four bytes at PC begin with: key formation (R91), then dispatch to exactly one row
(R96). Total: the trailing bytes an instruction does not use are ignored. -/
def decode4 (b0 b1 b2 b3 : Byte) : Instr :=
  match formKey b0 b1 b2 b3 with
  | .op op => decodeOp op b1 b2
  | .cb op => decodeCb op
  | .ed op => decodeEd op b2 b3
  | .dd op => decodeDd op b2 b3
  | .fd op => decodeFd op b2 b3
  | .ddcb d op => decodeDdcb d op
  | .fdcb d op => decodeFdcb d op

/-- How many bytes the step fetches for the instruction (R104). A discarded prefix fetches two, of which its
meaning gives one back (R97). -/
def Instr.size : Instr → Nat
  | .nop | .exAfAf | .addHlSs _ | .ldIndBcA | .ldAIndBc | .ldIndDeA | .ldAIndDe | .incSs _ | .decSs _
  | .incR _ | .incIndHl | .decR _ | .decIndHl | .rlca | .rrca | .rla | .rra | .daa | .cpl | .scf | .ccf
  | .ldRR _ _ | .ldRIndHl _ | .ldIndHlR _ | .halt | .addAR _ | .addAIndHl | .adcAR _ | .adcAIndHl
  | .subR _ | .subIndHl | .sbcAR _ | .sbcAIndHl | .andR _ | .andIndHl | .xorR _ | .xorIndHl | .orR _
  | .orIndHl | .cpR _ | .cpIndHl | .retCc _ | .popQq _ | .ret | .exx | .jpIndHl | .ldSpHl | .exIndSpHl
  | .exDeHl | .di | .ei | .pushQq _ | .rstP _ => 1
  | .djnzE _ | .jrE _ | .jrNzE _ | .jrZE _ | .jrNcE _ | .jrCE _ | .ldRN _ _ | .ldIndHlN _ | .addAN _
  | .adcAN _ | .subN _ | .sbcAN _ | .andN _ | .xorN _ | .orN _ | .cpN _ | .outPortNA _ | .inAPortN _
  | .rlcR _ | .rlcIndHl | .rrcR _ | .rrcIndHl | .rlR _ | .rlIndHl | .rrR _ | .rrIndHl | .slaR _
  | .slaIndHl | .sraR _ | .sraIndHl | .sllR _ | .sllIndHl | .srlR _ | .srlIndHl | .bitBR _ _
  | .bitBIndHl _ | .resBR _ _ | .resBIndHl _ | .setBR _ _ | .setBIndHl _ | .inRPortC _ | .outPortCR _
  | .sbcHlSs _ | .adcHlSs _ | .neg | .retn | .reti | .im0 | .im1 | .im2 | .ldIA | .ldRA | .ldAI | .ldAR
  | .rrd | .rld | .ldi | .cpi | .ini | .outi | .ldd | .cpd | .ind | .outd | .ldir | .cpir | .inir | .otir
  | .lddr | .cpdr | .indr | .otdr | .addIxPp _ | .incIx | .decIx | .popIx | .exIndSpIx | .pushIx
  | .jpIndIx | .ldSpIx | .addIyRr _ | .incIy | .decIy | .popIy | .exIndSpIy | .pushIy | .jpIndIy | .ldSpIy
  | .unknownHalfIndexDd _ | .discardedPrefixDd _ | .unknownHalfIndexFd _ | .discardedPrefixFd _
  | .unknownEd _ => 2
  | .ldDdNn _ _ | .ldIndNnHl _ | .ldHlIndNn _ | .ldIndNnA _ | .ldAIndNn _ | .jpCcNn _ _ | .jpNn _
  | .callCcNn _ _ | .callNn _ | .incIxd _ | .decIxd _ | .ldRIxd _ _ | .ldIxdR _ _ | .addAIxd _
  | .adcAIxd _ | .subIxd _ | .sbcAIxd _ | .andIxd _ | .xorIxd _ | .orIxd _ | .cpIxd _ | .incIyd _
  | .decIyd _ | .ldRIyd _ _ | .ldIydR _ _ | .addAIyd _ | .adcAIyd _ | .subIyd _ | .sbcAIyd _ | .andIyd _
  | .xorIyd _ | .orIyd _ | .cpIyd _ => 3
  | .ldIndNnDd _ _ | .ldDdIndNn _ _ | .ldIxNn _ | .ldIndNnIx _ | .ldIxIndNn _ | .ldIxdN _ _ | .rlcIxd _
  | .rrcIxd _ | .rlIxd _ | .rrIxd _ | .slaIxd _ | .sraIxd _ | .sllIxd _ | .srlIxd _ | .bitBIxd _ _
  | .resBIxd _ _ | .setBIxd _ _ | .ldIyNn _ | .ldIndNnIy _ | .ldIyIndNn _ | .ldIydN _ _ | .rlcIyd _
  | .rrcIyd _ | .rlIyd _ | .rrIyd _ | .slaIyd _ | .sraIyd _ | .sllIyd _ | .srlIyd _ | .bitBIyd _ _
  | .resBIyd _ _ | .setBIyd _ _ | .unknownDdcb _ _ | .unknownFdcb _ _ => 4

/-- Why a byte list is no instruction: it ends inside one. -/
inductive DecodeError where
  | truncated
  deriving DecidableEq, Repr

/-- Decode the first instruction of a byte list; the answer holds the bytes that follow it. -/
def decode (bs : List Byte) : Except DecodeError (Instr × List Byte) :=
  let i := decode4 (bs.getD 0 0#8) (bs.getD 1 0#8) (bs.getD 2 0#8) (bs.getD 3 0#8)
  if i.size ≤ bs.length then .ok (i, bs.drop i.size) else .error .truncated

/-! ### The encoder, from the rows of the encoding table (R109) -/

/-- The 3-bit register code (R10). -/
def Reg8.code : Reg8 → BitVec 3
  | .b => 0
  | .c => 1
  | .d => 2
  | .e => 3
  | .h => 4
  | .l => 5
  | .a => 7

/-- The `dd` and `ss` code (R93). -/
def Pair.code : Pair → BitVec 2
  | .bc => 0
  | .de => 1
  | .hl => 2
  | .sp => 3

/-- The `qq` code (R93). -/
def StackPair.code : StackPair → BitVec 2
  | .bc => 0
  | .de => 1
  | .hl => 2
  | .af => 3

/-- The `pp` code (R93). -/
def IxPair.code : IxPair → BitVec 2
  | .bc => 0
  | .de => 1
  | .ix => 2
  | .sp => 3

/-- The `rr` code (R93). -/
def IyPair.code : IyPair → BitVec 2
  | .bc => 0
  | .de => 1
  | .iy => 2
  | .sp => 3

/-- The `cc` code (R94). -/
def Cond.code : Cond → BitVec 3
  | .nz => 0
  | .z => 1
  | .nc => 2
  | .c => 3
  | .po => 4
  | .pe => 5
  | .p => 6
  | .m => 7

/-- The bytes of an instruction, in memory order. A discarded prefix is the prefix and the byte after it. -/
def encode : Instr → List Byte
  | .nop => [0x00#8]
  | .exAfAf => [0x08#8]
  | .djnzE e => [0x10#8, e]
  | .jrE e => [0x18#8, e]
  | .jrNzE e => [0x20#8, e]
  | .jrZE e => [0x28#8, e]
  | .jrNcE e => [0x30#8, e]
  | .jrCE e => [0x38#8, e]
  | .ldDdNn dd nn => [0b00#2 ++ dd.code ++ 0b0001#4, loByte nn, hiByte nn]
  | .addHlSs ss => [0b00#2 ++ ss.code ++ 0b1001#4]
  | .ldIndBcA => [0x02#8]
  | .ldAIndBc => [0x0A#8]
  | .ldIndDeA => [0x12#8]
  | .ldAIndDe => [0x1A#8]
  | .ldIndNnHl nn => [0x22#8, loByte nn, hiByte nn]
  | .ldHlIndNn nn => [0x2A#8, loByte nn, hiByte nn]
  | .ldIndNnA nn => [0x32#8, loByte nn, hiByte nn]
  | .ldAIndNn nn => [0x3A#8, loByte nn, hiByte nn]
  | .incSs ss => [0b00#2 ++ ss.code ++ 0b0011#4]
  | .decSs ss => [0b00#2 ++ ss.code ++ 0b1011#4]
  | .incR r => [0b00#2 ++ r.code ++ 0b100#3]
  | .incIndHl => [0x34#8]
  | .decR r => [0b00#2 ++ r.code ++ 0b101#3]
  | .decIndHl => [0x35#8]
  | .ldRN r n => [0b00#2 ++ r.code ++ 0b110#3, n]
  | .ldIndHlN n => [0x36#8, n]
  | .rlca => [0x07#8]
  | .rrca => [0x0F#8]
  | .rla => [0x17#8]
  | .rra => [0x1F#8]
  | .daa => [0x27#8]
  | .cpl => [0x2F#8]
  | .scf => [0x37#8]
  | .ccf => [0x3F#8]
  | .ldRR r r' => [0b01#2 ++ r.code ++ r'.code]
  | .ldRIndHl r => [0b01#2 ++ r.code ++ 0b110#3]
  | .ldIndHlR r => [0b01110#5 ++ r.code]
  | .halt => [0x76#8]
  | .addAR r => [0b10000#5 ++ r.code]
  | .addAN n => [0xC6#8, n]
  | .addAIndHl => [0x86#8]
  | .adcAR r => [0b10001#5 ++ r.code]
  | .adcAN n => [0xCE#8, n]
  | .adcAIndHl => [0x8E#8]
  | .subR r => [0b10010#5 ++ r.code]
  | .subN n => [0xD6#8, n]
  | .subIndHl => [0x96#8]
  | .sbcAR r => [0b10011#5 ++ r.code]
  | .sbcAN n => [0xDE#8, n]
  | .sbcAIndHl => [0x9E#8]
  | .andR r => [0b10100#5 ++ r.code]
  | .andN n => [0xE6#8, n]
  | .andIndHl => [0xA6#8]
  | .xorR r => [0b10101#5 ++ r.code]
  | .xorN n => [0xEE#8, n]
  | .xorIndHl => [0xAE#8]
  | .orR r => [0b10110#5 ++ r.code]
  | .orN n => [0xF6#8, n]
  | .orIndHl => [0xB6#8]
  | .cpR r => [0b10111#5 ++ r.code]
  | .cpN n => [0xFE#8, n]
  | .cpIndHl => [0xBE#8]
  | .retCc cc => [0b11#2 ++ cc.code ++ 0b000#3]
  | .popQq qq => [0b11#2 ++ qq.code ++ 0b0001#4]
  | .ret => [0xC9#8]
  | .exx => [0xD9#8]
  | .jpIndHl => [0xE9#8]
  | .ldSpHl => [0xF9#8]
  | .jpCcNn cc nn => [0b11#2 ++ cc.code ++ 0b010#3, loByte nn, hiByte nn]
  | .jpNn nn => [0xC3#8, loByte nn, hiByte nn]
  | .outPortNA n => [0xD3#8, n]
  | .inAPortN n => [0xDB#8, n]
  | .exIndSpHl => [0xE3#8]
  | .exDeHl => [0xEB#8]
  | .di => [0xF3#8]
  | .ei => [0xFB#8]
  | .callCcNn cc nn => [0b11#2 ++ cc.code ++ 0b100#3, loByte nn, hiByte nn]
  | .pushQq qq => [0b11#2 ++ qq.code ++ 0b0101#4]
  | .callNn nn => [0xCD#8, loByte nn, hiByte nn]
  | .rstP t => [0b11#2 ++ t ++ 0b111#3]
  | .rlcR r => [0xCB#8, 0b00000#5 ++ r.code]
  | .rlcIndHl => [0xCB#8, 0x06#8]
  | .rrcR r => [0xCB#8, 0b00001#5 ++ r.code]
  | .rrcIndHl => [0xCB#8, 0x0E#8]
  | .rlR r => [0xCB#8, 0b00010#5 ++ r.code]
  | .rlIndHl => [0xCB#8, 0x16#8]
  | .rrR r => [0xCB#8, 0b00011#5 ++ r.code]
  | .rrIndHl => [0xCB#8, 0x1E#8]
  | .slaR r => [0xCB#8, 0b00100#5 ++ r.code]
  | .slaIndHl => [0xCB#8, 0x26#8]
  | .sraR r => [0xCB#8, 0b00101#5 ++ r.code]
  | .sraIndHl => [0xCB#8, 0x2E#8]
  | .sllR r => [0xCB#8, 0b00110#5 ++ r.code]
  | .sllIndHl => [0xCB#8, 0x36#8]
  | .srlR r => [0xCB#8, 0b00111#5 ++ r.code]
  | .srlIndHl => [0xCB#8, 0x3E#8]
  | .bitBR b r => [0xCB#8, 0b01#2 ++ b ++ r.code]
  | .bitBIndHl b => [0xCB#8, 0b01#2 ++ b ++ 0b110#3]
  | .resBR b r => [0xCB#8, 0b10#2 ++ b ++ r.code]
  | .resBIndHl b => [0xCB#8, 0b10#2 ++ b ++ 0b110#3]
  | .setBR b r => [0xCB#8, 0b11#2 ++ b ++ r.code]
  | .setBIndHl b => [0xCB#8, 0b11#2 ++ b ++ 0b110#3]
  | .inRPortC r => [0xED#8, 0b01#2 ++ r.code ++ 0b000#3]
  | .outPortCR r => [0xED#8, 0b01#2 ++ r.code ++ 0b001#3]
  | .sbcHlSs ss => [0xED#8, 0b01#2 ++ ss.code ++ 0b0010#4]
  | .adcHlSs ss => [0xED#8, 0b01#2 ++ ss.code ++ 0b1010#4]
  | .ldIndNnDd nn dd => [0xED#8, 0b01#2 ++ dd.code ++ 0b0011#4, loByte nn, hiByte nn]
  | .ldDdIndNn dd nn => [0xED#8, 0b01#2 ++ dd.code ++ 0b1011#4, loByte nn, hiByte nn]
  | .neg => [0xED#8, 0x44#8]
  | .retn => [0xED#8, 0x45#8]
  | .reti => [0xED#8, 0x4D#8]
  | .im0 => [0xED#8, 0x46#8]
  | .im1 => [0xED#8, 0x56#8]
  | .im2 => [0xED#8, 0x5E#8]
  | .ldIA => [0xED#8, 0x47#8]
  | .ldRA => [0xED#8, 0x4F#8]
  | .ldAI => [0xED#8, 0x57#8]
  | .ldAR => [0xED#8, 0x5F#8]
  | .rrd => [0xED#8, 0x67#8]
  | .rld => [0xED#8, 0x6F#8]
  | .ldi => [0xED#8, 0xA0#8]
  | .cpi => [0xED#8, 0xA1#8]
  | .ini => [0xED#8, 0xA2#8]
  | .outi => [0xED#8, 0xA3#8]
  | .ldd => [0xED#8, 0xA8#8]
  | .cpd => [0xED#8, 0xA9#8]
  | .ind => [0xED#8, 0xAA#8]
  | .outd => [0xED#8, 0xAB#8]
  | .ldir => [0xED#8, 0xB0#8]
  | .cpir => [0xED#8, 0xB1#8]
  | .inir => [0xED#8, 0xB2#8]
  | .otir => [0xED#8, 0xB3#8]
  | .lddr => [0xED#8, 0xB8#8]
  | .cpdr => [0xED#8, 0xB9#8]
  | .indr => [0xED#8, 0xBA#8]
  | .otdr => [0xED#8, 0xBB#8]
  | .addIxPp pp => [0xDD#8, 0b00#2 ++ pp.code ++ 0b1001#4]
  | .ldIxNn nn => [0xDD#8, 0x21#8, loByte nn, hiByte nn]
  | .ldIndNnIx nn => [0xDD#8, 0x22#8, loByte nn, hiByte nn]
  | .incIx => [0xDD#8, 0x23#8]
  | .ldIxIndNn nn => [0xDD#8, 0x2A#8, loByte nn, hiByte nn]
  | .decIx => [0xDD#8, 0x2B#8]
  | .incIxd d => [0xDD#8, 0x34#8, d]
  | .decIxd d => [0xDD#8, 0x35#8, d]
  | .ldIxdN d n => [0xDD#8, 0x36#8, d, n]
  | .ldRIxd r d => [0xDD#8, 0b01#2 ++ r.code ++ 0b110#3, d]
  | .ldIxdR d r => [0xDD#8, 0b01110#5 ++ r.code, d]
  | .addAIxd d => [0xDD#8, 0x86#8, d]
  | .adcAIxd d => [0xDD#8, 0x8E#8, d]
  | .subIxd d => [0xDD#8, 0x96#8, d]
  | .sbcAIxd d => [0xDD#8, 0x9E#8, d]
  | .andIxd d => [0xDD#8, 0xA6#8, d]
  | .xorIxd d => [0xDD#8, 0xAE#8, d]
  | .orIxd d => [0xDD#8, 0xB6#8, d]
  | .cpIxd d => [0xDD#8, 0xBE#8, d]
  | .popIx => [0xDD#8, 0xE1#8]
  | .exIndSpIx => [0xDD#8, 0xE3#8]
  | .pushIx => [0xDD#8, 0xE5#8]
  | .jpIndIx => [0xDD#8, 0xE9#8]
  | .ldSpIx => [0xDD#8, 0xF9#8]
  | .rlcIxd d => [0xDD#8, 0xCB#8, d, 0x06#8]
  | .rrcIxd d => [0xDD#8, 0xCB#8, d, 0x0E#8]
  | .rlIxd d => [0xDD#8, 0xCB#8, d, 0x16#8]
  | .rrIxd d => [0xDD#8, 0xCB#8, d, 0x1E#8]
  | .slaIxd d => [0xDD#8, 0xCB#8, d, 0x26#8]
  | .sraIxd d => [0xDD#8, 0xCB#8, d, 0x2E#8]
  | .sllIxd d => [0xDD#8, 0xCB#8, d, 0x36#8]
  | .srlIxd d => [0xDD#8, 0xCB#8, d, 0x3E#8]
  | .bitBIxd b d => [0xDD#8, 0xCB#8, d, 0b01#2 ++ b ++ 0b110#3]
  | .resBIxd b d => [0xDD#8, 0xCB#8, d, 0b10#2 ++ b ++ 0b110#3]
  | .setBIxd b d => [0xDD#8, 0xCB#8, d, 0b11#2 ++ b ++ 0b110#3]
  | .addIyRr rr => [0xFD#8, 0b00#2 ++ rr.code ++ 0b1001#4]
  | .ldIyNn nn => [0xFD#8, 0x21#8, loByte nn, hiByte nn]
  | .ldIndNnIy nn => [0xFD#8, 0x22#8, loByte nn, hiByte nn]
  | .incIy => [0xFD#8, 0x23#8]
  | .ldIyIndNn nn => [0xFD#8, 0x2A#8, loByte nn, hiByte nn]
  | .decIy => [0xFD#8, 0x2B#8]
  | .incIyd d => [0xFD#8, 0x34#8, d]
  | .decIyd d => [0xFD#8, 0x35#8, d]
  | .ldIydN d n => [0xFD#8, 0x36#8, d, n]
  | .ldRIyd r d => [0xFD#8, 0b01#2 ++ r.code ++ 0b110#3, d]
  | .ldIydR d r => [0xFD#8, 0b01110#5 ++ r.code, d]
  | .addAIyd d => [0xFD#8, 0x86#8, d]
  | .adcAIyd d => [0xFD#8, 0x8E#8, d]
  | .subIyd d => [0xFD#8, 0x96#8, d]
  | .sbcAIyd d => [0xFD#8, 0x9E#8, d]
  | .andIyd d => [0xFD#8, 0xA6#8, d]
  | .xorIyd d => [0xFD#8, 0xAE#8, d]
  | .orIyd d => [0xFD#8, 0xB6#8, d]
  | .cpIyd d => [0xFD#8, 0xBE#8, d]
  | .popIy => [0xFD#8, 0xE1#8]
  | .exIndSpIy => [0xFD#8, 0xE3#8]
  | .pushIy => [0xFD#8, 0xE5#8]
  | .jpIndIy => [0xFD#8, 0xE9#8]
  | .ldSpIy => [0xFD#8, 0xF9#8]
  | .rlcIyd d => [0xFD#8, 0xCB#8, d, 0x06#8]
  | .rrcIyd d => [0xFD#8, 0xCB#8, d, 0x0E#8]
  | .rlIyd d => [0xFD#8, 0xCB#8, d, 0x16#8]
  | .rrIyd d => [0xFD#8, 0xCB#8, d, 0x1E#8]
  | .slaIyd d => [0xFD#8, 0xCB#8, d, 0x26#8]
  | .sraIyd d => [0xFD#8, 0xCB#8, d, 0x2E#8]
  | .sllIyd d => [0xFD#8, 0xCB#8, d, 0x36#8]
  | .srlIyd d => [0xFD#8, 0xCB#8, d, 0x3E#8]
  | .bitBIyd b d => [0xFD#8, 0xCB#8, d, 0b01#2 ++ b ++ 0b110#3]
  | .resBIyd b d => [0xFD#8, 0xCB#8, d, 0b10#2 ++ b ++ 0b110#3]
  | .setBIyd b d => [0xFD#8, 0xCB#8, d, 0b11#2 ++ b ++ 0b110#3]
  | .unknownHalfIndexDd op => [0xDD#8, op]
  | .discardedPrefixDd op => [0xDD#8, op]
  | .unknownDdcb d op => [0xDD#8, 0xCB#8, d, op]
  | .unknownHalfIndexFd op => [0xFD#8, op]
  | .discardedPrefixFd op => [0xFD#8, op]
  | .unknownFdcb d op => [0xFD#8, 0xCB#8, d, op]
  | .unknownEd op => [0xED#8, op]

/-! ### The host's view of the opcode table -/

/-- The bytes of a table key of `nbits` bits, first byte in the HIGH bits, as the table packs its keys (R92,
R109). Log entry 17. -/
def keyBytes (nbits w : Nat) : List Byte :=
  match (nbits + 7) / 8 with
  | 0 => []
  | 1 => [BitVec.ofNat 8 w]
  | 2 => [BitVec.ofNat 8 (w / 256), BitVec.ofNat 8 w]
  | 3 => [BitVec.ofNat 8 (w / 65536), BitVec.ofNat 8 (w / 256), BitVec.ofNat 8 w]
  | _ => [BitVec.ofNat 8 (w / 16777216), BitVec.ofNat 8 (w / 65536), BitVec.ofNat 8 (w / 256), BitVec.ofNat 8 w]

/-- The key's bytes with operand bytes of zero after them, up to the longest instruction (four bytes). -/
def tableWordBytes (nbits w : Nat) : List Byte :=
  (keyBytes nbits w ++ [0#8, 0#8, 0#8, 0#8]).take 4

/-- The instruction the decoder reads from a table word. -/
def decodeTableWord (nbits w : Nat) : Option Instr :=
  match decode (tableWordBytes nbits w) with
  | .ok (i, _) => some i
  | .error _ => none

end Sys2Proof
end

