-- ==== Sys2Proof/Machine/Cost.lean ====
section
/-! DEFINITION. The parameter `Cost` (R7, D7): the T-states of each row of opcode_table.json as a table the model
takes, with the spec's default, the table of R548. Log entry 11. -/

namespace Sys2Proof.Machine

/-- The place of an instruction's row in opcode_table.json, from 0. The class rows (R97, R98) stand behind the 206
instruction rows. -/
def instrRow : Instr → Nat
  | .nop => 0
  | .exAfAf => 1
  | .djnzE _ => 2
  | .jrE _ => 3
  | .jrNzE _ => 4
  | .jrZE _ => 5
  | .jrNcE _ => 6
  | .jrCE _ => 7
  | .ldDdNn _ _ => 8
  | .addHlSs _ => 9
  | .ldIndBcA => 10
  | .ldAIndBc => 11
  | .ldIndDeA => 12
  | .ldAIndDe => 13
  | .ldIndNnHl _ => 14
  | .ldHlIndNn _ => 15
  | .ldIndNnA _ => 16
  | .ldAIndNn _ => 17
  | .incSs _ => 18
  | .decSs _ => 19
  | .incR _ => 20
  | .incIndHl => 21
  | .decR _ => 22
  | .decIndHl => 23
  | .ldRN _ _ => 24
  | .ldIndHlN _ => 25
  | .rlca => 26
  | .rrca => 27
  | .rla => 28
  | .rra => 29
  | .daa => 30
  | .cpl => 31
  | .scf => 32
  | .ccf => 33
  | .ldRR _ _ => 34
  | .ldRIndHl _ => 35
  | .ldIndHlR _ => 36
  | .halt => 37
  | .addAR _ => 38
  | .addAN _ => 39
  | .addAIndHl => 40
  | .adcAR _ => 41
  | .adcAN _ => 42
  | .adcAIndHl => 43
  | .subR _ => 44
  | .subN _ => 45
  | .subIndHl => 46
  | .sbcAR _ => 47
  | .sbcAN _ => 48
  | .sbcAIndHl => 49
  | .andR _ => 50
  | .andN _ => 51
  | .andIndHl => 52
  | .xorR _ => 53
  | .xorN _ => 54
  | .xorIndHl => 55
  | .orR _ => 56
  | .orN _ => 57
  | .orIndHl => 58
  | .cpR _ => 59
  | .cpN _ => 60
  | .cpIndHl => 61
  | .retCc _ => 62
  | .popQq _ => 63
  | .ret => 64
  | .exx => 65
  | .jpIndHl => 66
  | .ldSpHl => 67
  | .jpCcNn _ _ => 68
  | .jpNn _ => 69
  | .outPortNA _ => 70
  | .inAPortN _ => 71
  | .exIndSpHl => 72
  | .exDeHl => 73
  | .di => 74
  | .ei => 75
  | .callCcNn _ _ => 76
  | .pushQq _ => 77
  | .callNn _ => 78
  | .rstP _ => 79
  | .rlcR _ => 80
  | .rlcIndHl => 81
  | .rrcR _ => 82
  | .rrcIndHl => 83
  | .rlR _ => 84
  | .rlIndHl => 85
  | .rrR _ => 86
  | .rrIndHl => 87
  | .slaR _ => 88
  | .slaIndHl => 89
  | .sraR _ => 90
  | .sraIndHl => 91
  | .sllR _ => 92
  | .sllIndHl => 93
  | .srlR _ => 94
  | .srlIndHl => 95
  | .bitBR _ _ => 96
  | .bitBIndHl _ => 97
  | .resBR _ _ => 98
  | .resBIndHl _ => 99
  | .setBR _ _ => 100
  | .setBIndHl _ => 101
  | .inRPortC _ => 102
  | .outPortCR _ => 103
  | .sbcHlSs _ => 104
  | .adcHlSs _ => 105
  | .ldIndNnDd _ _ => 106
  | .ldDdIndNn _ _ => 107
  | .neg => 108
  | .retn => 109
  | .reti => 110
  | .im0 => 111
  | .im1 => 112
  | .im2 => 113
  | .ldIA => 114
  | .ldRA => 115
  | .ldAI => 116
  | .ldAR => 117
  | .rrd => 118
  | .rld => 119
  | .ldi => 120
  | .cpi => 121
  | .ini => 122
  | .outi => 123
  | .ldd => 124
  | .cpd => 125
  | .ind => 126
  | .outd => 127
  | .ldir => 128
  | .cpir => 129
  | .inir => 130
  | .otir => 131
  | .lddr => 132
  | .cpdr => 133
  | .indr => 134
  | .otdr => 135
  | .addIxPp _ => 136
  | .ldIxNn _ => 137
  | .ldIndNnIx _ => 138
  | .incIx => 139
  | .ldIxIndNn _ => 140
  | .decIx => 141
  | .incIxd _ => 142
  | .decIxd _ => 143
  | .ldIxdN _ _ => 144
  | .ldRIxd _ _ => 145
  | .ldIxdR _ _ => 146
  | .addAIxd _ => 147
  | .adcAIxd _ => 148
  | .subIxd _ => 149
  | .sbcAIxd _ => 150
  | .andIxd _ => 151
  | .xorIxd _ => 152
  | .orIxd _ => 153
  | .cpIxd _ => 154
  | .popIx => 155
  | .exIndSpIx => 156
  | .pushIx => 157
  | .jpIndIx => 158
  | .ldSpIx => 159
  | .rlcIxd _ => 160
  | .rrcIxd _ => 161
  | .rlIxd _ => 162
  | .rrIxd _ => 163
  | .slaIxd _ => 164
  | .sraIxd _ => 165
  | .sllIxd _ => 166
  | .srlIxd _ => 167
  | .bitBIxd _ _ => 168
  | .resBIxd _ _ => 169
  | .setBIxd _ _ => 170
  | .addIyRr _ => 171
  | .ldIyNn _ => 172
  | .ldIndNnIy _ => 173
  | .incIy => 174
  | .ldIyIndNn _ => 175
  | .decIy => 176
  | .incIyd _ => 177
  | .decIyd _ => 178
  | .ldIydN _ _ => 179
  | .ldRIyd _ _ => 180
  | .ldIydR _ _ => 181
  | .addAIyd _ => 182
  | .adcAIyd _ => 183
  | .subIyd _ => 184
  | .sbcAIyd _ => 185
  | .andIyd _ => 186
  | .xorIyd _ => 187
  | .orIyd _ => 188
  | .cpIyd _ => 189
  | .popIy => 190
  | .exIndSpIy => 191
  | .pushIy => 192
  | .jpIndIy => 193
  | .ldSpIy => 194
  | .rlcIyd _ => 195
  | .rrcIyd _ => 196
  | .rlIyd _ => 197
  | .rrIyd _ => 198
  | .slaIyd _ => 199
  | .sraIyd _ => 200
  | .sllIyd _ => 201
  | .srlIyd _ => 202
  | .bitBIyd _ _ => 203
  | .resBIyd _ _ => 204
  | .setBIyd _ _ => 205
  | .unknownHalfIndexDd _ => 206
  | .discardedPrefixDd _ => 207
  | .unknownDdcb _ _ => 208
  | .unknownHalfIndexFd _ => 209
  | .discardedPrefixFd _ => 210
  | .unknownFdcb _ _ => 211
  | .unknownEd _ => 212

/-- R548 for the rows without a prefix: taken or repeating, and not taken or last iteration. -/
def defaultCostOp : List (Nat × Nat) :=
  [(4, 4), (4, 4), (13, 8), (12, 12), (12, 7), (12, 7), (12, 7), (12, 7), (10, 10), (11, 11), (7, 7), (7, 7),
   (7, 7), (7, 7), (16, 16), (16, 16), (13, 13), (13, 13), (6, 6), (6, 6), (4, 4), (11, 11), (4, 4), (11, 11),
   (7, 7), (10, 10), (4, 4), (4, 4), (4, 4), (4, 4), (4, 4), (4, 4), (4, 4), (4, 4), (4, 4), (7, 7), (7, 7),
   (4, 4), (4, 4), (7, 7), (7, 7), (4, 4), (7, 7), (7, 7), (4, 4), (7, 7), (7, 7), (4, 4), (7, 7), (7, 7),
   (4, 4), (7, 7), (7, 7), (4, 4), (7, 7), (7, 7), (4, 4), (7, 7), (7, 7), (4, 4), (7, 7), (7, 7), (11, 5),
   (10, 10), (10, 10), (4, 4), (4, 4), (6, 6), (10, 10), (10, 10), (11, 11), (11, 11), (19, 19), (4, 4),
   (4, 4), (4, 4), (17, 10), (11, 11), (17, 17), (11, 11)]

/-- R548 for the CB rows: taken or repeating, and not taken or last iteration. -/
def defaultCostCb : List (Nat × Nat) :=
  [(8, 8), (15, 15), (8, 8), (15, 15), (8, 8), (15, 15), (8, 8), (15, 15), (8, 8), (15, 15), (8, 8), (15, 15),
   (8, 8), (15, 15), (8, 8), (15, 15), (8, 8), (12, 12), (8, 8), (15, 15), (8, 8), (15, 15)]

/-- R548 for the ED rows: taken or repeating, and not taken or last iteration. -/
def defaultCostEd : List (Nat × Nat) :=
  [(12, 12), (12, 12), (15, 15), (15, 15), (20, 20), (20, 20), (8, 8), (14, 14), (14, 14), (8, 8), (8, 8),
   (8, 8), (9, 9), (9, 9), (9, 9), (9, 9), (18, 18), (18, 18), (16, 16), (16, 16), (16, 16), (16, 16),
   (16, 16), (16, 16), (16, 16), (16, 16), (21, 16), (21, 16), (21, 16), (21, 16), (21, 16), (21, 16),
   (21, 16), (21, 16)]

/-- R548 for the DD rows: taken or repeating, and not taken or last iteration. -/
def defaultCostDd : List (Nat × Nat) :=
  [(15, 15), (14, 14), (20, 20), (10, 10), (20, 20), (10, 10), (23, 23), (23, 23), (19, 19), (19, 19),
   (19, 19), (19, 19), (19, 19), (19, 19), (19, 19), (19, 19), (19, 19), (19, 19), (19, 19), (14, 14),
   (23, 23), (15, 15), (8, 8), (10, 10)]

/-- R548 for the DDCB rows: taken or repeating, and not taken or last iteration. -/
def defaultCostDdcb : List (Nat × Nat) :=
  [(23, 23), (23, 23), (23, 23), (23, 23), (23, 23), (23, 23), (23, 23), (23, 23), (20, 20), (23, 23),
   (23, 23)]

/-- R548 for the FD rows: taken or repeating, and not taken or last iteration. -/
def defaultCostFd : List (Nat × Nat) :=
  [(15, 15), (14, 14), (20, 20), (10, 10), (20, 20), (10, 10), (23, 23), (23, 23), (19, 19), (19, 19),
   (19, 19), (19, 19), (19, 19), (19, 19), (19, 19), (19, 19), (19, 19), (19, 19), (19, 19), (14, 14),
   (23, 23), (15, 15), (8, 8), (10, 10)]

/-- R548 for the FDCB rows: taken or repeating, and not taken or last iteration. -/
def defaultCostFdcb : List (Nat × Nat) :=
  [(23, 23), (23, 23), (23, 23), (23, 23), (23, 23), (23, 23), (23, 23), (23, 23), (20, 20), (23, 23),
   (23, 23)]

/-- The default `Cost`: R548's table, which is the `tstates` column of opcode_table.json, row by row. -/
def defaultCost : List (Nat × Nat) :=
  defaultCostOp ++ defaultCostCb ++ defaultCostEd ++ defaultCostDd ++
    defaultCostDdcb ++ defaultCostFd ++ defaultCostFdcb

/-- The two costs a table gives an instruction. A row beyond the table costs nothing. -/
def costOf (table : List (Nat × Nat)) (i : Instr) : Nat × Nat := table.getD (instrRow i) (0, 0)

end Sys2Proof.Machine
end

