-- ==== Sys2Proof/Machine/Params.lean ====
section
/-! DEFINITION. The named parameters of R7 that the machine takes as an argument, as plain data, and their defaults
(92_eei_decisions.md). `Mem` is `State.mem` itself and `ResetState` is `State.resetState` (Machine/State.lean),
`HScroll` and `BLANK_WHEN` stand in the VDP (`Screen`), `XY` and `Refresh` are the free values of Config.lean, and
`DefinedSet` is `Instr`. Log entry 20. -/

namespace Sys2Proof.Machine

/-- How the driver feeds the CPU's maskable input (D20, R467). -/
inductive Feed where
  /-- The default: before every step `int_pending` becomes a copy of `irq_pending`. -/
  | level
  /-- The permitted alternative: a raised `irq_pending` sets `int_pending` and is cleared. -/
  | edge
  deriving DecidableEq, Repr

/-- The CPU's `int_pending` after the feeding, from its old value and `irq_pending`. -/
def Feed.pending : Feed → Bool → Bool → Bool
  | .level, _, irq => irq
  | .edge, old, irq => old || irq

/-- The VDP's `irq_pending` after the feeding, from its old value. -/
def Feed.keeps : Feed → Bool → Bool
  | .level, irq => irq
  | .edge, _ => false

/-- The parameters of R7 that no step changes. -/
structure Params where
  /-- `Ports`: the VDP's ports are `vdpPort ++ 0` for data and `vdpPort ++ 1` for control: even, and the next odd
  address (R66, D13, D43). -/
  vdpPort : BitVec 7
  /-- `Ports`: the further ports registered for reading. -/
  readPorts : List Byte
  /-- `Ports`: the further ports registered for writing. -/
  writePorts : List Byte
  /-- `DiscardSet`: the second bytes of DD and FD that discard the prefix, as closed ranges (R97, D2). -/
  discard : List (Nat × Nat)
  /-- `Cost`: for each row of opcode_table.json the T-states taken and not taken (R548, D7). -/
  cost : List (Nat × Nat)
  /-- `TickScale`: VDP cycles for `tickDen` T-states (R467, D21). -/
  tickNum : Nat
  /-- `TickScale`: the divisor of `tickNum`. -/
  tickDen : Nat
  /-- `Driver`: how the interrupt line is fed (D20). -/
  feed : Feed
  deriving DecidableEq, Repr

/-- Every parameter at the default of 92_eei_decisions.md; the port numbers 0xBE and 0xBF are those of the spec's
examples (D43). -/
def Params.default : Params :=
  { vdpPort := 0x5F#7
    readPorts := []
    writePorts := []
    discard := Keys.discard
    cost := defaultCost
    tickNum := 3
    tickDen := 2
    feed := .level }

/-- `VDP_DATA_PORT`: even (R66, R489). -/
def Params.dataPort (p : Params) : Byte := p.vdpPort ++ 0#1

/-- `VDP_CTRL_PORT`: the next odd address (R66, R489). -/
def Params.ctrlPort (p : Params) : Byte := p.vdpPort ++ 1#1

/-- `HScroll`: how VDP register 8 shifts the background (R505, D39). -/
inductive HScroll where
  /-- The default: column `(x - VR[8]) mod 256`. -/
  | wrap
  /-- Another one: an uninterpreted column, `Config.scrolledColumn`. -/
  | other
  deriving DecidableEq, Repr

/-- The two parameters of the raster engine. -/
structure Screen where
  hScroll : HScroll
  /-- `BLANK_WHEN`: the value of `VR[1]` bit 6 at which the display is blanked (R500, D44). -/
  blankWhen : Bool
  deriving DecidableEq, Repr

/-- The defaults of D39 and D44. -/
def Screen.default : Screen := { hScroll := .wrap, blankWhen := false }

/-- The background column shown at screen column `x` when `VR[8] = r8` (R505). -/
def HScroll.column (h : HScroll) (x : Nat) (r8 : Byte) : Nat :=
  match h with
  | .wrap => (x + 256 - r8.toNat) % 256
  | .other => (Config.scrolledColumn x r8).toNat

/-- Is `op` a second byte of DD or FD that discards the prefix (R97)? -/
def Params.discards (p : Params) (op : Byte) : Bool := Keys.inRanges op p.discard

/-- The decoder classes the DD and FD keys without an instruction by the default `DiscardSet` (R97, R98(c)). Under
another set a key in it discards its prefix, and one outside it is unknown, with the same key. -/
def Params.classify (p : Params) : Instr → Instr
  | .unknownHalfIndexDd op | .discardedPrefixDd op =>
    if p.discards op then .discardedPrefixDd op else .unknownHalfIndexDd op
  | .unknownHalfIndexFd op | .discardedPrefixFd op =>
    if p.discards op then .discardedPrefixFd op else .unknownHalfIndexFd op
  | i => i

end Sys2Proof.Machine
end

