-- ==== Sys2Proof/Machine/State.lean ====
section
/-! DEFINITION. The machine's state as plain data (10_state.md), its faults and refusals, and the state right
after reset. -/

namespace Sys2Proof.Machine

/-- Why a machine stops. All three are safe: no step is defined after them. -/
inductive Fault where
  /-- Raised by dispatch of a key with no handler (R450): the unknown class rows hold it in `State.fault`, and
  the step of a machine that holds it answers this fault. Safe: the machine stops where the spec says it is
  stuck until a reset (R452). -/
  | unknownOpcode (key : Key)
  /-- Raised by the port operation of an input or output instruction on an unregistered port (R451); held in
  `State.fault` and answered by the step of a machine that holds it. Safe, as above. -/
  | invalidPort (port : Byte)
  /-- Raised by EI when EI opcodes nest 65,536 deep (R289, U12): `Step()` does not return. Safe: a stuck
  state, as the spec treats it. -/
  | eiRunaway
  deriving DecidableEq, Repr

/-- Why the model gives an instruction no meaning. -/
inductive Refusal where
  /-- Answered only by an arm of `exec` whose instruction has no meaning yet: none is left. Safe. -/
  | notModelled (mnemonic : String)
  deriving DecidableEq, Repr

/-- The flag register F, one field per bit (R28): S = bit 7, Z = 6, F5 = 5, H = 4, F3 = 3, P/V = 2, N = 1,
C = 0. Held by bit, since flags are written and read bit by bit; `Flags.toByte` is the byte. -/
structure Flags where
  s : Bool
  z : Bool
  f5 : Bool
  h : Bool
  f3 : Bool
  p : Bool
  n : Bool
  c : Bool
  deriving DecidableEq, Repr

/-- One bank of the register file: A, F and the three pairs, as 8-bit halves (R20, R21). -/
structure Bank where
  a : Byte
  f : Flags
  b : Byte
  c : Byte
  d : Byte
  e : Byte
  h : Byte
  l : Byte
  deriving DecidableEq, Repr

/-- The interrupt-mode selector IM (R33). -/
inductive IntMode where
  | im0
  | im1
  | im2
  deriving DecidableEq, Repr

/-- A 24-bit pixel of the framebuffer (R508, R509). -/
structure Rgb where
  r : Byte
  g : Byte
  b : Byte
  deriving DecidableEq, Repr

/-- The parameter `Mem` (R62, D12): the component behind `Read` and `Write`. -/
inductive Mem where
  /-- The default: a flat array of 65,536 bytes, as its (address, byte) pairs in the canonical form of
  Machine/Store.lean. -/
  | flat (bytes : List Host.Cell)
  /-- Any other component, in the state `m`: ROM, mirrors, mapper registers, reads with effects. What it does is
  uninterpreted (Config.lean). -/
  | component (m : List Host.Cell)
  deriving DecidableEq, Repr

/-- The VDP's state (R40, R480). VRAM and the framebuffer are sparse, in the canonical form of
Machine/Store.lean; a framebuffer entry is a line number and that line's 256 pixels. -/
structure Vdp where
  vram : List Host.Cell
  cram : Vector Byte 32
  vr : Vector Byte 16
  addr : BitVec 14
  code : BitVec 2
  latch : Bool
  readbuf : Byte
  status : Byte
  irqPending : Bool
  hcount : BitVec 9
  vcount : Byte
  vjump : Bool
  linecnt : Byte
  fb : List (Nat × List Rgb)
  /-- The parameters `HScroll` and `BLANK_WHEN`: nothing changes them. -/
  screen : Screen
  deriving DecidableEq, Repr

/-- The parameter `ResetState` (R7, D11, D37): what `Reset()` puts into every line of R41's and R42's tables. Its
`vdp.screen` plays no part: a reset leaves the VDP's parameters as they are. Log entry 21. -/
structure ResetState where
  main : Bank
  shadow : Bank
  ix : Word
  iy : Word
  sp : Word
  pc : Word
  i : Byte
  r : Byte
  iff1 : Bool
  iff2 : Bool
  im : IntMode
  halted : Bool
  nmiPending : Bool
  intPending : Bool
  tStates : Nat
  fault : Option Fault
  vdp : Vdp
  deriving DecidableEq, Repr

/-- What the host does at one turn of the driver loop, before the CPU's step (R466): reset the CORE and load an
image, clear `TStates`, clear `irq_pending`, set `nmi_pending`; and `should_render` for the turn's `Tick`. -/
structure HostInput where
  reset : Option (List Host.Cell)
  clearTStates : Bool
  clearIrq : Bool
  nmi : Bool
  shouldRender : Bool
  deriving DecidableEq, Repr

/-- The whole machine: the CPU's register file (R20 to R36), the held fault (R38), memory (R60), the VDP (R40),
the driver's accumulator (R467), the host's coming inputs (R466), the model's own counter of free values and the
parameters of R7. -/
structure State where
  /-- The main bank (R20). -/
  main : Bank
  /-- The shadow bank AF', BC', DE', HL' (R22). -/
  shadow : Bank
  ix : Word
  iy : Word
  sp : Word
  pc : Word
  /-- I, the high half of the IR pair (R26). -/
  i : Byte
  /-- R, the low half of the IR pair (R27). -/
  r : Byte
  iff1 : Bool
  iff2 : Bool
  im : IntMode
  halted : Bool
  nmiPending : Bool
  intPending : Bool
  /-- Elapsed T-states: an unbounded natural number (R6, R36). -/
  tStates : Nat
  /-- The fault the machine holds, if any (R38). -/
  fault : Option Fault
  /-- The 64 KiB of memory (R60): the parameter `Mem`. -/
  mem : Mem
  vdp : Vdp
  /-- The driver's accumulator of parts of a VDP cycle, half cycles at the default (R467). -/
  acc : Nat
  /-- The host's inputs for the coming turns, the next one first (R466). -/
  inputs : List HostInput
  /-- The MODEL's counter: how many free values have been drawn. -/
  draws : Nat
  /-- The parameters of R7: nothing changes them. -/
  params : Params
  /-- The parameter `ResetState` of R7: nothing changes it, and every reset reads it (R540). -/
  resetState : ResetState
  deriving DecidableEq, Repr

/-- All flags clear: the byte 0x00. -/
def Flags.zero : Flags := ⟨false, false, false, false, false, false, false, false⟩

/-- Every register of a bank zero. -/
def Bank.zero : Bank := ⟨0, Flags.zero, 0, 0, 0, 0, 0, 0⟩

/-- The values of everything that R41 and R42 leave unspecified: the general registers, VRAM, CRAM and the
framebuffer. -/
structure Unspecified where
  main : Bank
  shadow : Bank
  ix : Word
  iy : Word
  sp : Word
  vram : List Host.Cell
  cram : Vector Byte 32
  fb : List (Nat × List Rgb)
  deriving DecidableEq, Repr

/-- The values this model takes where reset leaves a value unspecified: zero throughout. DESIGN CHOICE, unsafe:
log entries 3 and 7. -/
def Unspecified.zero : Unspecified :=
  { main := Bank.zero, shadow := Bank.zero, ix := 0, iy := 0, sp := 0, vram := [],
    cram := Vector.replicate 32 0, fb := [] }

/-- The default `ResetState`: no line of R41's and R42's tables overridden (R541), and `u` in the lines that they
leave unspecified. -/
def ResetState.ofTable (u : Unspecified) : ResetState :=
  { main := u.main
    shadow := u.shadow
    ix := u.ix
    iy := u.iy
    sp := u.sp
    pc := 0x0000#16
    i := 0x00#8
    r := 0x00#8
    iff1 := false
    iff2 := false
    im := .im0
    halted := false
    nmiPending := false
    intPending := false
    tStates := 0
    fault := none
    vdp :=
      { vram := u.vram
        cram := u.cram
        vr := Vector.replicate 16 0
        addr := 0
        code := 0
        latch := false
        readbuf := 0
        status := 0
        irqPending := false
        hcount := 0
        vcount := 0
        vjump := false
        linecnt := 0
        fb := u.fb
        screen := Screen.default } }

/-- The state after reset (R540) under the parameters `p`, `screen` and `r`, with the image in the
memory component `mem`, the host's inputs to come and the draw counter: every line of R41 and R42 as `r` gives it, and
`acc` 0. -/
def State.resetWith (p : Params) (screen : Screen) (r : ResetState) (mem : Mem) (inputs : List HostInput)
    (draws : Nat) : State :=
  { main := r.main
    shadow := r.shadow
    ix := r.ix
    iy := r.iy
    sp := r.sp
    pc := r.pc
    i := r.i
    r := r.r
    iff1 := r.iff1
    iff2 := r.iff2
    im := r.im
    halted := r.halted
    nmiPending := r.nmiPending
    intPending := r.intPending
    tStates := r.tStates
    fault := r.fault
    mem := mem
    vdp := { r.vdp with screen := screen }
    acc := 0
    inputs := inputs
    draws := draws
    params := p
    resetState := r }

/-- The machine right after reset (R541), every parameter at its default, with nothing loaded and no host input to
come. -/
def State.reset : State :=
  State.resetWith Params.default Screen.default (ResetState.ofTable Unspecified.zero) (.flat []) [] 0

end Sys2Proof.Machine
end

