-- ==== Sys2Proof/Machine/Store.lean ====
section
/-! DEFINITION. Sparse storage in one canonical form: a list of (address, value) pairs, addresses strictly
rising, no entry equal to what an unlisted address reads as. It holds memory, VRAM and the framebuffer. -/

namespace Sys2Proof.Machine

/-- The value at `a`: the first entry for it, else the default `dflt`. -/
def Store.get {α : Type} (dflt : α) : List (Nat × α) → Nat → α
  | [], _ => dflt
  | (b, v) :: rest, a => if b = a then v else Store.get dflt rest a

/-- The store without its entries for `a`. -/
def Store.erase {α : Type} : List (Nat × α) → Nat → List (Nat × α)
  | [], _ => []
  | (b, v) :: rest, a => if b = a then Store.erase rest a else (b, v) :: Store.erase rest a

/-- An entry put before the first entry of a higher address. -/
def Store.insert {α : Type} : List (Nat × α) → Nat → α → List (Nat × α)
  | [], a, v => [(a, v)]
  | (b, w) :: rest, a, v => if a < b then (a, v) :: (b, w) :: rest else (b, w) :: Store.insert rest a v

/-- Write `v` at `a`: writing the default removes the entry, so that equal stores are equal lists. -/
def Store.set {α : Type} [DecidableEq α] (dflt : α) (m : List (Nat × α)) (a : Nat) (v : α) : List (Nat × α) :=
  if v = dflt then Store.erase m a else Store.insert (Store.erase m a) a v

/-- Canonical from address `lo` on: addresses at least `lo`, strictly rising, below `bound`; no entry is the
default. -/
def Store.wfFrom {α : Type} [DecidableEq α] (dflt : α) (bound : Nat) : Nat → List (Nat × α) → Bool
  | _, [] => true
  | lo, (a, v) :: rest =>
    decide (lo ≤ a) && decide (a < bound) && decide (v ≠ dflt) && Store.wfFrom dflt bound (a + 1) rest

/-- The canonical form of a store whose addresses lie below `bound`. -/
def Store.wf {α : Type} [DecidableEq α] (dflt : α) (bound : Nat) (m : List (Nat × α)) : Bool :=
  Store.wfFrom dflt bound 0 m

/-! ### The flat array -/

/-- R62's flat array read: the byte most recently written, else the initial byte. -/
def Memory.read (m : List Host.Cell) (a : Word) : Byte := Store.get Config.unwrittenByte m a.toNat

/-- One byte written to the flat array (R62). -/
def Memory.write (m : List Host.Cell) (a : Word) (v : Byte) : List Host.Cell :=
  Store.set Config.unwrittenByte m a.toNat v

/-- The flat array is in canonical form, all addresses below 65,536. -/
def Memory.wf (m : List Host.Cell) : Bool := Store.wf Config.unwrittenByte 65536 m

/-- A program image laid into EMPTY memory, later entries over earlier ones, addresses modulo 65,536: the whole
contents of the flat array after a reset. DESIGN CHOICE, unsafe: what a reset during a run leaves of the bytes outside
the image is open (R466, R540). Log entry 18. -/
def Memory.ofImage (image : List Host.Cell) : List Host.Cell :=
  image.foldl (fun m cell => Memory.write m (BitVec.ofNat 16 cell.1) cell.2) []

/-! ### The memory component (R11, R62) -/

/-- `Read(a)`: the byte it answers. -/
def Mem.read : Mem → Word → Byte
  | .flat bytes, a => Memory.read bytes a
  | .component m, a => Config.componentRead m a

/-- The component after `Read(a)`: the flat array's reads have no effect (R65). -/
def Mem.afterRead : Mem → Word → Mem
  | .flat bytes, _ => .flat bytes
  | .component m, a => .component (Config.componentAfterRead m a)

/-- The component after `Write(a, v)`. -/
def Mem.write : Mem → Word → Byte → Mem
  | .flat bytes, a, v => .flat (Memory.write bytes a v)
  | .component m, a, v => .component (Config.componentWrite m a v)

/-- The component after `n` fetches from `a` on, wrapping (R12, R73). -/
def Mem.afterFetches : Mem → Word → Nat → Mem
  | mem, _, 0 => mem
  | mem, a, n + 1 => (mem.afterRead a).afterFetches (a + 1) n

/-- The component after the host has loaded an image at a reset (R466): the flat array holds the image and nothing
else. Log entry 18. -/
def Mem.load : Mem → List Host.Cell → Mem
  | .flat _, image => .flat (Memory.ofImage image)
  | .component m, image => .component (Config.componentLoad m image)

/-- Is this the default `Mem`, the flat array of R62? -/
def Mem.isFlat : Mem → Bool
  | .flat _ => true
  | .component _ => false

/-- The flat array is in canonical form; nothing is asked of another component. -/
def Mem.wf : Mem → Bool
  | .flat bytes => Memory.wf bytes
  | .component _ => true

/-! ### VRAM and the framebuffer -/

/-- One byte of VRAM (R480). -/
def Vram.read (m : List Host.Cell) (a : BitVec 14) : Byte := Store.get Config.unwrittenByte m a.toNat

/-- One byte written to VRAM. -/
def Vram.write (m : List Host.Cell) (a : BitVec 14) (v : Byte) : List Host.Cell :=
  Store.set Config.unwrittenByte m a.toNat v

/-- VRAM is in canonical form, all addresses below 16,384. -/
def Vram.wf (m : List Host.Cell) : Bool := Store.wf Config.unwrittenByte 16384 m

/-- The colour (0, 0, 0). -/
def Rgb.black : Rgb := ⟨0, 0, 0⟩

/-- What an unlisted line of the framebuffer reads as. DESIGN CHOICE: log entry 7. -/
def Fb.blankRow : List Rgb := List.replicate 256 Rgb.black

/-- Line `y` of the framebuffer (R509). -/
def Fb.row (fb : List (Nat × List Rgb)) (y : Nat) : List Rgb := Store.get Fb.blankRow fb y

/-- A whole line written to the framebuffer (R504, R509). -/
def Fb.writeRow (fb : List (Nat × List Rgb)) (y : Nat) (row : List Rgb) : List (Nat × List Rgb) :=
  Store.set Fb.blankRow fb y row

/-- The framebuffer is in canonical form, lines 0 to 191, each of 256 pixels. -/
def Fb.wf (fb : List (Nat × List Rgb)) : Bool :=
  Store.wf Fb.blankRow 192 fb && fb.all (fun entry => entry.2.length == 256)

end Sys2Proof.Machine
end

