-- ==== Sys2Proof/Machine/Ops.lean ====
section
/-! DEFINITION. The named operations over registers and memory (00_scope.md R10 to R14), taking an interrupt as
one shared operation and the return from one (60_exceptions.md), and the refresh of R. -/

namespace Sys2Proof.Machine

/-- What a meaning answers. -/
abbrev Out := Host.Outcome State Fault Refusal

/-! ### Registers (R10, R21) -/

/-- The 8-bit register `r` of a bank. -/
def Bank.get (b : Bank) : Reg8 → Byte
  | .b => b.b
  | .c => b.c
  | .d => b.d
  | .e => b.e
  | .h => b.h
  | .l => b.l
  | .a => b.a

/-- The bank with register `r` holding `v`. -/
def Bank.set (b : Bank) (r : Reg8) (v : Byte) : Bank :=
  match r with
  | .b => { b with b := v }
  | .c => { b with c := v }
  | .d => { b with d := v }
  | .e => { b with e := v }
  | .h => { b with h := v }
  | .l => { b with l := v }
  | .a => { b with a := v }

/-- `BC = B ++ C` (R21). -/
def Bank.bc (b : Bank) : Word := b.b ++ b.c

/-- `DE = D ++ E` (R21). -/
def Bank.de (b : Bank) : Word := b.d ++ b.e

/-- `HL = H ++ L` (R21). -/
def Bank.hl (b : Bank) : Word := b.h ++ b.l

/-- Writing BC writes B and C (R21). -/
def Bank.setBc (b : Bank) (v : Word) : Bank := { b with b := hiByte v, c := loByte v }

/-- Writing DE writes D and E (R21). -/
def Bank.setDe (b : Bank) (v : Word) : Bank := { b with d := hiByte v, e := loByte v }

/-- Writing HL writes H and L (R21). -/
def Bank.setHl (b : Bank) (v : Word) : Bank := { b with h := hiByte v, l := loByte v }

/-- F as the byte it is (R28). -/
def Flags.toByte (f : Flags) : Byte :=
  BitVec.ofBool f.s ++ BitVec.ofBool f.z ++ BitVec.ofBool f.f5 ++ BitVec.ofBool f.h ++ BitVec.ofBool f.f3 ++
    BitVec.ofBool f.p ++ BitVec.ofBool f.n ++ BitVec.ofBool f.c

/-- The flags of a byte (R28). -/
def Flags.ofByte (v : Byte) : Flags :=
  { s := v.getLsbD 7
    z := v.getLsbD 6
    f5 := v.getLsbD 5
    h := v.getLsbD 4
    f3 := v.getLsbD 3
    p := v.getLsbD 2
    n := v.getLsbD 1
    c := v.getLsbD 0 }

/-- `AF = A ++ F` (R21). -/
def Bank.af (b : Bank) : Word := b.a ++ b.f.toByte

/-- Writing AF writes A and all eight bits of F (R21, R177). -/
def Bank.setAf (b : Bank) (v : Word) : Bank := { b with a := hiByte v, f := Flags.ofByte (loByte v) }

/-- `r8[r]` read (R10). -/
def State.r8 (s : State) (r : Reg8) : Byte := s.main.get r

/-- `r8[r] <- v` (R10). -/
def State.setR8 (s : State) (r : Reg8) (v : Byte) : State := { s with main := s.main.set r v }

/-- `A <- v`. -/
def State.setA (s : State) (v : Byte) : State := { s with main := { s.main with a := v } }

/-- `B <- v`. -/
def State.setB (s : State) (v : Byte) : State := { s with main := { s.main with b := v } }

/-- `BC <- v`. -/
def State.setBc (s : State) (v : Word) : State := { s with main := s.main.setBc v }

/-- `DE <- v`. -/
def State.setDe (s : State) (v : Word) : State := { s with main := s.main.setDe v }

/-- `HL <- v`. -/
def State.setHl (s : State) (v : Word) : State := { s with main := s.main.setHl v }

/-- `IX <- v`. -/
def State.setIx (s : State) (v : Word) : State := { s with ix := v }

/-- `IY <- v`. -/
def State.setIy (s : State) (v : Word) : State := { s with iy := v }

/-- `SP <- v`. -/
def State.setSp (s : State) (v : Word) : State := { s with sp := v }

/-- `PC <- v` (R14). -/
def State.setPc (s : State) (v : Word) : State := { s with pc := v }

/-- `rp[dd]` read (R10). -/
def State.pair (s : State) : Pair → Word
  | .bc => s.main.bc
  | .de => s.main.de
  | .hl => s.main.hl
  | .sp => s.sp

/-- `rp[dd] <- v` (R10). -/
def State.setPair (s : State) (p : Pair) (v : Word) : State :=
  match p with
  | .bc => s.setBc v
  | .de => s.setDe v
  | .hl => s.setHl v
  | .sp => s.setSp v

/-- `rp2[qq]` read (R10). -/
def State.stackPair (s : State) : StackPair → Word
  | .bc => s.main.bc
  | .de => s.main.de
  | .hl => s.main.hl
  | .af => s.main.af

/-- `rp2[qq] <- v` (R10). -/
def State.setStackPair (s : State) (q : StackPair) (v : Word) : State :=
  match q with
  | .bc => s.setBc v
  | .de => s.setDe v
  | .hl => s.setHl v
  | .af => { s with main := s.main.setAf v }

/-- The operand `pp` of ADD IX,pp: code 2 is IX itself (R303). -/
def State.ixPair (s : State) : IxPair → Word
  | .bc => s.main.bc
  | .de => s.main.de
  | .ix => s.ix
  | .sp => s.sp

/-- The operand `rr` of ADD IY,rr: code 2 is IY itself (R304). -/
def State.iyPair (s : State) : IyPair → Word
  | .bc => s.main.bc
  | .de => s.main.de
  | .iy => s.iy
  | .sp => s.sp

/-! ### Memory (R11, R63, R64) -/

/-- `MemRead(a, 1)`: the byte it returns (R11). -/
def State.rd (s : State) (a : Word) : Byte := s.mem.read a

/-- What `MemRead(a, 1)` does: nothing with the default `Mem`, and whatever another component defines (R65). -/
def State.afterRd (s : State) (a : Word) : State := { s with mem := s.mem.afterRead a }

/-- `MemRead(a, 2)`: low address first, little-endian, wrapping at 0xFFFF (R11, R63, R64, R76). -/
def State.rd16 (s : State) (a : Word) : Word := wordOfBytes (s.rd a) ((s.afterRd a).rd (a + 1))

/-- What `MemRead(a, 2)` does: its two reads, in order (R65, R76). -/
def State.afterRd16 (s : State) (a : Word) : State := (s.afterRd a).afterRd (a + 1)

/-- `MemWrite(a, 1, v)` (R11). -/
def State.wr (s : State) (a : Word) (v : Byte) : State := { s with mem := s.mem.write a v }

/-- `MemWrite(a, 2, v)`: the low byte at `a` first, then the high byte at `a + 1` (R11, R63). -/
def State.wr16 (s : State) (a : Word) (v : Word) : State := (s.wr a (loByte v)).wr (a + 1) (hiByte v)

/-- `push16(v)`: the high byte at SP-1, then the low byte at SP-2, SP down by two (R13). -/
def State.push16 (s : State) (v : Word) : State :=
  ((s.wr (s.sp - 1) (hiByte v)).wr (s.sp - 2) (loByte v)).setSp (s.sp - 2)

/-- The word `pop16()` returns: the low byte at SP, the high byte at SP+1 (R13). -/
def State.popped (s : State) : Word := s.rd16 s.sp

/-- What `pop16()` does: two reads, and SP up by two (R13). -/
def State.drop16 (s : State) : State := (s.afterRd16 s.sp).setSp (s.sp + 2)

/-! ### T-states, faults, fetch -/

/-- `T(n)` (R14). -/
def State.addT (s : State) (n : Nat) : State := { s with tStates := s.tStates + n }

/-- The n of an instruction's `T(n)`, or the a of its `T(a/b)`: the parameter `Cost` (R14, R548). -/
def State.cost (s : State) (i : Instr) : Nat := (costOf s.params.cost i).1

/-- The b of an instruction's `T(a/b)`: not taken, or the last iteration (R14, R548, R560). -/
def State.costElse (s : State) (i : Instr) : Nat := (costOf s.params.cost i).2

/-- `raise f`: the machine holds the fault (R14, R38). -/
def State.raise (s : State) (f : Fault) : State := { s with fault := some f }

/-- What `n` times `fetch8()` do: `n` reads from PC on, and PC past them, wrapping at 0xFFFF (R12, R24). -/
def State.skip (s : State) (n : Nat) : State :=
  { s with mem := s.mem.afterFetches s.pc n, pc := s.pc + BitVec.ofNat 16 n }

/-- The byte that `fetch8()` returns after `n` others (R12). -/
def State.fetchByte (s : State) (n : Nat) : Byte := (s.skip n).rd (s.skip n).pc

/-- The instruction at PC (R12, R73, R90). The decoder looks at as many bytes as the instruction has, so the bytes
behind it do not matter and are not fetched. -/
def State.fetchInstr (s : State) : Instr :=
  s.params.classify (decode4 (s.fetchByte 0) (s.fetchByte 1) (s.fetchByte 2) (s.fetchByte 3))

/-! ### Interrupt entry and return (R442, R443, R454, R455) -/

/-- What both interrupt entries do (R454): push PC, clear the halt latch, go to the vector, clear IFF1. -/
def State.enterInterrupt (s : State) (vector : Word) : State :=
  { (s.push16 s.pc) with halted := false, pc := vector, iff1 := false }

/-- NMI entry (R442): vector 0x0066; IFF2 is kept. -/
def State.takeNmi (s : State) : State := { s.enterInterrupt 0x0066#16 with nmiPending := false }

/-- Maskable interrupt entry (R443): vector 0x0038; both flip-flops are cleared. -/
def State.takeInt (s : State) : State :=
  { s.enterInterrupt 0x0038#16 with iff2 := false, intPending := false }

/-- `PC <- pop16()`: what every return does (R410, R455). -/
def State.popPc (s : State) : State := (s.drop16).setPc s.popped

/-- The return from an interrupt: PC popped and `IFF1 <- IFF2` (R412, R413, R455). -/
def State.returnFromInterrupt (s : State) : State := { s.popPc with iff1 := s.iff2 }

/-! ### R (R27) -/

/-- The end of every step: bits 6:0 of R hold `Refresh`, a free value; bit 7 stays (R27, R441). Log entry 4. -/
def State.refreshR (s : State) : State :=
  { s with r := s.r.extractLsb' 7 1 ++ Config.refresh s.draws, draws := s.draws + 1 }

end Sys2Proof.Machine
end

