-- ==== Sys2Proof/Machine/Flags.lean ====
section
/-! DEFINITION. Every flag computation of the spec: the 8-bit adder and subtracter (R17), logic (R18), the shift
and rotate flags (R19, R358), INC and DEC (R250), DAA (R280), the 16-bit adders (R300 to R302), the conditions
(R16), and the write of F with its two free bits (R15, R31). -/

namespace Sys2Proof.Machine

/-! ### Writing and testing F -/

/-- F after an instruction that writes at least one named flag: the named flags of `f`, F5 and F3 free values
(R15, R31). Log entry 9. -/
def State.writeFlags (s : State) (f : Flags) : State :=
  { s with
    main :=
      { s.main with
        f := { f with f5 := Config.freeFlag .f5 s.draws, f3 := Config.freeFlag .f3 s.draws } }
    draws := s.draws + 1 }

/-- `cond(c)` (R16). -/
def Flags.cond (f : Flags) : Cond → Bool
  | .nz => !f.z
  | .z => f.z
  | .nc => !f.c
  | .c => f.c
  | .po => !f.p
  | .pe => f.p
  | .p => !f.s
  | .m => f.s

/-- `parity(v)`: 1 when `v` has an even number of 1 bits (R9). -/
def parity (v : Byte) : Bool :=
  !(v.getLsbD 0 ^^ v.getLsbD 1 ^^ v.getLsbD 2 ^^ v.getLsbD 3 ^^ v.getLsbD 4 ^^ v.getLsbD 5 ^^ v.getLsbD 6 ^^
    v.getLsbD 7)

/-- A condition used as a number: 1 when true (R9). -/
def bit (c : Bool) : Nat := if c then 1 else 0

/-! ### The 8-bit adder (R17) -/

/-- The byte of `add8(a, b, c)` (R17). -/
def add8 (a b : Byte) (c : Bool) : Byte := BitVec.ofNat 8 (a.toNat + b.toNat + bit c)

/-- The flags of `add8(a, b, c)` (R17). -/
def add8Flags (f : Flags) (a b : Byte) (c : Bool) : Flags :=
  let r := add8 a b c
  { f with
    s := r.msb
    z := r == 0
    h := decide (a.toNat % 16 + b.toNat % 16 + bit c > 15)
    p := (a.msb == b.msb) && (r.msb != a.msb)
    n := false
    c := decide (a.toNat + b.toNat + bit c > 255) }

/-- The byte of `sub8(a, b, c)` (R17). -/
def sub8 (a b : Byte) (c : Bool) : Byte := a - b - BitVec.ofNat 8 (bit c)

/-- The flags of `sub8(a, b, c)` (R17): H is the borrow into bit 3, C the borrow out of bit 7 (C8). -/
def sub8Flags (f : Flags) (a b : Byte) (c : Bool) : Flags :=
  let r := sub8 a b c
  { f with
    s := r.msb
    z := r == 0
    h := decide (a.toNat % 16 < b.toNat % 16 + bit c)
    p := (a.msb != b.msb) && (r.msb != a.msb)
    n := true
    c := decide (a.toNat < b.toNat + bit c) }

/-- `logic8(r, h)` (R18). -/
def logic8Flags (f : Flags) (r : Byte) (h : Bool) : Flags :=
  { f with s := r.msb, z := r == 0, h := h, p := parity r, n := false, c := false }

/-- `szp8(r)` (R19). -/
def szp8 (f : Flags) (r : Byte) : Flags := { f with s := r.msb, z := r == 0, p := parity r }

/-! ### INC and DEC (R250) -/

/-- The byte of `inc8(v)` (R250). -/
def inc8 (v : Byte) : Byte := v + 1

/-- The flags of `inc8(v)`: C is not written (R250). -/
def inc8Flags (f : Flags) (v : Byte) : Flags :=
  let r := inc8 v
  { f with
    s := r.msb
    z := r == 0
    h := decide (v.toNat % 16 = 15)
    p := v == 0x7F#8
    n := false }

/-- The byte of `dec8(v)` (R250). -/
def dec8 (v : Byte) : Byte := v - 1

/-- The flags of `dec8(v)`: C is not written (R250). -/
def dec8Flags (f : Flags) (v : Byte) : Flags :=
  let r := dec8 v
  { f with
    s := r.msb
    z := r == 0
    h := decide (v.toNat % 16 = 0)
    p := v == 0x80#8
    n := true }

/-! ### DAA (R280) -/

/-- The correction byte of DAA (R280). -/
def daaCorrection (a : Byte) (f : Flags) : Byte :=
  (if f.h || decide (a.toNat % 16 > 9) then 0x06#8 else 0x00#8) +
    (if f.c || decide (a.toNat > 0x99) then 0x60#8 else 0x00#8)

/-- The byte DAA leaves in A (R280). -/
def daa (a : Byte) (f : Flags) : Byte := if f.n then a - daaCorrection a f else a + daaCorrection a f

/-- The flags of DAA: N is not written (R280). -/
def daaFlags (a : Byte) (f : Flags) : Flags :=
  { szp8 f (daa a f) with
    h := if f.n then f.h && decide (a.toNat % 16 < 6) else decide (a.toNat % 16 > 9)
    c := f.c || decide (a.toNat > 0x99) }

/-! ### Rotates and shifts (R358) -/

/-- The eight operations of the rotate field (R93, R358). -/
inductive RotOp where
  | rlc
  | rrc
  | rl
  | rr
  | sla
  | sra
  | sll
  | srl
  deriving DecidableEq, Repr

/-- The result byte of `rot8(k, v)` with the old carry `c` (R358). -/
def rot8 (k : RotOp) (v : Byte) (c : Bool) : Byte :=
  match k with
  | .rlc => (v <<< 1) ||| BitVec.ofNat 8 (bit (v.getLsbD 7))
  | .rrc => (v >>> 1) ||| (BitVec.ofNat 8 (bit (v.getLsbD 0)) <<< 7)
  | .rl => (v <<< 1) ||| BitVec.ofNat 8 (bit c)
  | .rr => (v >>> 1) ||| (BitVec.ofNat 8 (bit c) <<< 7)
  | .sla => v <<< 1
  | .sra => (v >>> 1) ||| (v &&& 0x80#8)
  | .sll => (v <<< 1) ||| 1#8
  | .srl => v >>> 1

/-- The carry-out of `rot8(k, v)`: the bit moved out (R358). -/
def rot8Carry (k : RotOp) (v : Byte) : Bool :=
  match k with
  | .rlc | .rl | .sla | .sll => v.getLsbD 7
  | .rrc | .rr | .sra | .srl => v.getLsbD 0

/-- The flags of a CB, DDCB or FDCB rotate or shift (R358). -/
def rot8Flags (f : Flags) (k : RotOp) (v : Byte) : Flags :=
  { szp8 f (rot8 k v f.c) with h := false, n := false, c := rot8Carry k v }

/-- The flags of RLCA, RLA, RRCA and RRA: S, Z and P/V stay (R358). -/
def rotAFlags (f : Flags) (k : RotOp) (v : Byte) : Flags :=
  { f with h := false, n := false, c := rot8Carry k v }

/-! ### 16-bit arithmetic (R300 to R302) -/

/-- The word of a 16-bit addition with carry-in (R300, R301). -/
def add16 (a b : Word) (c : Bool) : Word := BitVec.ofNat 16 (a.toNat + b.toNat + bit c)

/-- The flags of ADD HL, ADD IX and ADD IY: H from bit 11, N, C (R300). -/
def add16Flags (f : Flags) (a b : Word) : Flags :=
  { f with
    h := decide (a.toNat % 4096 + b.toNat % 4096 > 0xFFF)
    n := false
    c := decide (a.toNat + b.toNat > 0xFFFF) }

/-- The flags of ADC HL (R301). -/
def adc16Flags (f : Flags) (a b : Word) (c : Bool) : Flags :=
  let r := add16 a b c
  { f with
    s := r.msb
    z := r == 0
    h := decide (a.toNat % 4096 + b.toNat % 4096 + bit c > 0xFFF)
    p := (a.msb == b.msb) && (r.msb != a.msb)
    n := false
    c := decide (a.toNat + b.toNat + bit c > 0xFFFF) }

/-- The word of SBC HL (R302). -/
def sub16 (a b : Word) (c : Bool) : Word := a - b - BitVec.ofNat 16 (bit c)

/-- The flags of SBC HL (R302). -/
def sbc16Flags (f : Flags) (a b : Word) (c : Bool) : Flags :=
  let r := sub16 a b c
  { f with
    s := r.msb
    z := r == 0
    h := decide (a.toNat % 4096 < b.toNat % 4096 + bit c)
    p := (a.msb != b.msb) && (r.msb != a.msb)
    n := true
    c := decide (a.toNat < b.toNat + bit c) }

/-! ### The ALU on A: result and flags at once -/

/-- `A <- add8(A, v, c)` (R210, R215). -/
def State.aluAdd (s : State) (v : Byte) (c : Bool) : State :=
  (s.setA (add8 s.main.a v c)).writeFlags (add8Flags s.main.f s.main.a v c)

/-- `A <- sub8(A, v, c)` (R220, R225). -/
def State.aluSub (s : State) (v : Byte) (c : Bool) : State :=
  (s.setA (sub8 s.main.a v c)).writeFlags (sub8Flags s.main.f s.main.a v c)

/-- `A <- A and v` (R230). -/
def State.aluAnd (s : State) (v : Byte) : State :=
  (s.setA (s.main.a &&& v)).writeFlags (logic8Flags s.main.f (s.main.a &&& v) true)

/-- `A <- A xor v` (R235). -/
def State.aluXor (s : State) (v : Byte) : State :=
  (s.setA (s.main.a ^^^ v)).writeFlags (logic8Flags s.main.f (s.main.a ^^^ v) false)

/-- `A <- A or v` (R240). -/
def State.aluOr (s : State) (v : Byte) : State :=
  (s.setA (s.main.a ||| v)).writeFlags (logic8Flags s.main.f (s.main.a ||| v) false)

/-- `sub8(A, v, 0)` with A not written (R245). -/
def State.aluCp (s : State) (v : Byte) : State := s.writeFlags (sub8Flags s.main.f s.main.a v false)

end Sys2Proof.Machine
end

