-- ==== Sys2Proof/Machine/Operands.lean ====
section
/-! DEFINITION. The operand forms: the effective address of (IX+d), (IY+d), a relative branch (R95), and the
memory operand read and written at an effective address. -/

namespace Sys2Proof.Machine

/-- `sext8(d)` as a word (R9). -/
def sext8 (d : Byte) : Word := d.signExtend 16

/-- The effective address `trunc16(IX + sext8(d))` (R95). -/
def State.ixd (s : State) (d : Byte) : Word := s.ix + sext8 d

/-- The effective address `trunc16(IY + sext8(d))` (R95). -/
def State.iyd (s : State) (d : Byte) : Word := s.iy + sext8 d

/-- The memory byte at HL. -/
def State.indHl (s : State) : Byte := s.rd s.main.hl

/-- What reading the byte at HL does. -/
def State.afterIndHl (s : State) : State := s.afterRd s.main.hl

/-- `PC <- trunc16(PC + sext8(e))`, PC already past the displacement byte (R95, R392). -/
def State.jumpRelative (s : State) (e : Byte) : State := s.setPc (s.pc + sext8 e)

/-- The mask `1 << b` (R374). -/
def bitMask (b : BitVec 3) : Byte := 1#8 <<< b.toNat

/-- INC of the byte at `ea`: read, then write, then the flags (R259). -/
def State.incAt (s : State) (ea : Word) : State :=
  ((s.afterRd ea).wr ea (inc8 (s.rd ea))).writeFlags (inc8Flags s.main.f (s.rd ea))

/-- DEC of the byte at `ea` (R263). -/
def State.decAt (s : State) (ea : Word) : State :=
  ((s.afterRd ea).wr ea (dec8 (s.rd ea))).writeFlags (dec8Flags s.main.f (s.rd ea))

/-- Rotate or shift of the byte at `ea` (R325, R358). -/
def State.rotAt (s : State) (k : RotOp) (ea : Word) : State :=
  ((s.afterRd ea).wr ea (rot8 k (s.rd ea) s.main.f.c)).writeFlags (rot8Flags s.main.f k (s.rd ea))

/-- Rotate or shift of a register (R324, R358). -/
def State.rotR (s : State) (k : RotOp) (r : Reg8) : State :=
  (s.setR8 r (rot8 k (s.r8 r) s.main.f.c)).writeFlags (rot8Flags s.main.f k (s.r8 r))

/-- Rotate of A by an accumulator form (R320 to R323, R358). -/
def State.rotA (s : State) (k : RotOp) : State :=
  (s.setA (rot8 k s.main.a s.main.f.c)).writeFlags (rotAFlags s.main.f k s.main.a)

/-- BIT on the byte `v`: Z from the tested bit, H = 1, N = 0, S and P/V free values, C kept (R370, D19).
Log entry 10. -/
def State.testBit (s : State) (b : BitVec 3) (v : Byte) : State :=
  s.writeFlags
    { s.main.f with
      s := Config.freeFlag .s s.draws
      z := !(v.getLsbD b.toNat)
      h := true
      p := Config.freeFlag .p s.draws
      n := false }

/-- SET of the byte at `ea` (R375). -/
def State.setBitAt (s : State) (b : BitVec 3) (ea : Word) : State :=
  (s.afterRd ea).wr ea (s.rd ea ||| bitMask b)

/-- RES of the byte at `ea` (R379). -/
def State.resBitAt (s : State) (b : BitVec 3) (ea : Word) : State :=
  (s.afterRd ea).wr ea (s.rd ea &&& (0xFF#8 ^^^ bitMask b))

/-- The repeat mechanism of `i`: `PC <- trunc16(PC - 2); T(21)` while the condition holds, else `T(16)`, with the
costs of the parameter `Cost` (R196). -/
def State.repeatIf (s : State) (i : Instr) (again : Bool) : State :=
  if again then (s.setPc (s.pc - 2)).addT (s.cost i) else s.addT (s.costElse i)

end Sys2Proof.Machine
end

