-- ==== Sys2Proof/Machine/Alu16.lean ====
section
/-! DEFINITION. The 16-bit arithmetic group (45_alu16.md). -/

namespace Sys2Proof.Machine

/-- `ADD HL,ss` (R300). -/
def execAddHlSs (ss : Pair) (s : State) : Out :=
  .next (((s.setHl (add16 s.main.hl (s.pair ss) false)).writeFlags
    (add16Flags s.main.f s.main.hl (s.pair ss))).addT (s.cost (.addHlSs ss)))

/-- `INC ss` (R305). -/
def execIncSs (ss : Pair) (s : State) : Out := .next ((s.setPair ss (s.pair ss + 1)).addT (s.cost (.incSs ss)))

/-- `DEC ss` (R308). -/
def execDecSs (ss : Pair) (s : State) : Out := .next ((s.setPair ss (s.pair ss - 1)).addT (s.cost (.decSs ss)))

/-- `SBC HL,ss` (R302). -/
def execSbcHlSs (ss : Pair) (s : State) : Out :=
  .next (((s.setHl (sub16 s.main.hl (s.pair ss) s.main.f.c)).writeFlags
    (sbc16Flags s.main.f s.main.hl (s.pair ss) s.main.f.c)).addT (s.cost (.sbcHlSs ss)))

/-- `ADC HL,ss` (R301). -/
def execAdcHlSs (ss : Pair) (s : State) : Out :=
  .next (((s.setHl (add16 s.main.hl (s.pair ss) s.main.f.c)).writeFlags
    (adc16Flags s.main.f s.main.hl (s.pair ss) s.main.f.c)).addT (s.cost (.adcHlSs ss)))

/-- `ADD IX,pp` (R303). -/
def execAddIxPp (pp : IxPair) (s : State) : Out :=
  .next (((s.setIx (add16 s.ix (s.ixPair pp) false)).writeFlags
    (add16Flags s.main.f s.ix (s.ixPair pp))).addT (s.cost (.addIxPp pp)))

/-- `INC IX` (R306). -/
def execIncIx (s : State) : Out := .next ((s.setIx (s.ix + 1)).addT (s.cost .incIx))

/-- `DEC IX` (R309). -/
def execDecIx (s : State) : Out := .next ((s.setIx (s.ix - 1)).addT (s.cost .decIx))

/-- `ADD IY,rr` (R304). -/
def execAddIyRr (rr : IyPair) (s : State) : Out :=
  .next (((s.setIy (add16 s.iy (s.iyPair rr) false)).writeFlags
    (add16Flags s.main.f s.iy (s.iyPair rr))).addT (s.cost (.addIyRr rr)))

/-- `INC IY` (R307). -/
def execIncIy (s : State) : Out := .next ((s.setIy (s.iy + 1)).addT (s.cost .incIy))

/-- `DEC IY` (R310). -/
def execDecIy (s : State) : Out := .next ((s.setIy (s.iy - 1)).addT (s.cost .decIy))

end Sys2Proof.Machine
end

