-- ==== Sys2Proof/Machine/Alu8.lean ====
section
/-! DEFINITION. The 8-bit arithmetic and logic group (43_alu8.md). -/

namespace Sys2Proof.Machine

/-- `INC r` (R258). -/
def execIncR (r : Reg8) (s : State) : Out :=
  .next (((s.setR8 r (inc8 (s.r8 r))).writeFlags (inc8Flags s.main.f (s.r8 r))).addT (s.cost (.incR r)))

/-- `INC (HL)` (R259). -/
def execIncIndHl (s : State) : Out := .next ((s.incAt s.main.hl).addT (s.cost .incIndHl))

/-- `DEC r` (R262). -/
def execDecR (r : Reg8) (s : State) : Out :=
  .next (((s.setR8 r (dec8 (s.r8 r))).writeFlags (dec8Flags s.main.f (s.r8 r))).addT (s.cost (.decR r)))

/-- `DEC (HL)` (R263). -/
def execDecIndHl (s : State) : Out := .next ((s.decAt s.main.hl).addT (s.cost .decIndHl))

/-- `ADD A,r` (R210). -/
def execAddAR (r : Reg8) (s : State) : Out := .next ((s.aluAdd (s.r8 r) false).addT (s.cost (.addAR r)))

/-- `ADD A,n` (R211). -/
def execAddAN (n : Byte) (s : State) : Out := .next ((s.aluAdd n false).addT (s.cost (.addAN n)))

/-- `ADD A,(HL)` (R212). -/
def execAddAIndHl (s : State) : Out := .next ((s.afterIndHl.aluAdd s.indHl false).addT (s.cost .addAIndHl))

/-- `ADC A,r` (R215). -/
def execAdcAR (r : Reg8) (s : State) : Out := .next ((s.aluAdd (s.r8 r) s.main.f.c).addT (s.cost (.adcAR r)))

/-- `ADC A,n` (R216). -/
def execAdcAN (n : Byte) (s : State) : Out := .next ((s.aluAdd n s.main.f.c).addT (s.cost (.adcAN n)))

/-- `ADC A,(HL)` (R217). -/
def execAdcAIndHl (s : State) : Out := .next ((s.afterIndHl.aluAdd s.indHl s.main.f.c).addT (s.cost .adcAIndHl))

/-- `SUB r` (R220). -/
def execSubR (r : Reg8) (s : State) : Out := .next ((s.aluSub (s.r8 r) false).addT (s.cost (.subR r)))

/-- `SUB n` (R221). -/
def execSubN (n : Byte) (s : State) : Out := .next ((s.aluSub n false).addT (s.cost (.subN n)))

/-- `SUB (HL)` (R222). -/
def execSubIndHl (s : State) : Out := .next ((s.afterIndHl.aluSub s.indHl false).addT (s.cost .subIndHl))

/-- `SBC A,r` (R225). -/
def execSbcAR (r : Reg8) (s : State) : Out := .next ((s.aluSub (s.r8 r) s.main.f.c).addT (s.cost (.sbcAR r)))

/-- `SBC A,n` (R226). -/
def execSbcAN (n : Byte) (s : State) : Out := .next ((s.aluSub n s.main.f.c).addT (s.cost (.sbcAN n)))

/-- `SBC A,(HL)` (R227). -/
def execSbcAIndHl (s : State) : Out := .next ((s.afterIndHl.aluSub s.indHl s.main.f.c).addT (s.cost .sbcAIndHl))

/-- `AND r` (R230). -/
def execAndR (r : Reg8) (s : State) : Out := .next ((s.aluAnd (s.r8 r)).addT (s.cost (.andR r)))

/-- `AND n` (R231). -/
def execAndN (n : Byte) (s : State) : Out := .next ((s.aluAnd n).addT (s.cost (.andN n)))

/-- `AND (HL)` (R232). -/
def execAndIndHl (s : State) : Out := .next ((s.afterIndHl.aluAnd s.indHl).addT (s.cost .andIndHl))

/-- `XOR r` (R235). -/
def execXorR (r : Reg8) (s : State) : Out := .next ((s.aluXor (s.r8 r)).addT (s.cost (.xorR r)))

/-- `XOR n` (R236). -/
def execXorN (n : Byte) (s : State) : Out := .next ((s.aluXor n).addT (s.cost (.xorN n)))

/-- `XOR (HL)` (R237). -/
def execXorIndHl (s : State) : Out := .next ((s.afterIndHl.aluXor s.indHl).addT (s.cost .xorIndHl))

/-- `OR r` (R240). -/
def execOrR (r : Reg8) (s : State) : Out := .next ((s.aluOr (s.r8 r)).addT (s.cost (.orR r)))

/-- `OR n` (R241). -/
def execOrN (n : Byte) (s : State) : Out := .next ((s.aluOr n).addT (s.cost (.orN n)))

/-- `OR (HL)` (R242). -/
def execOrIndHl (s : State) : Out := .next ((s.afterIndHl.aluOr s.indHl).addT (s.cost .orIndHl))

/-- `CP r` (R245). -/
def execCpR (r : Reg8) (s : State) : Out := .next ((s.aluCp (s.r8 r)).addT (s.cost (.cpR r)))

/-- `CP n` (R246). -/
def execCpN (n : Byte) (s : State) : Out := .next ((s.aluCp n).addT (s.cost (.cpN n)))

/-- `CP (HL)` (R247). -/
def execCpIndHl (s : State) : Out := .next ((s.afterIndHl.aluCp s.indHl).addT (s.cost .cpIndHl))

/-- `INC (IX+d)` (R260). -/
def execIncIxd (d : Byte) (s : State) : Out := .next ((s.incAt (s.ixd d)).addT (s.cost (.incIxd d)))

/-- `DEC (IX+d)` (R264). -/
def execDecIxd (d : Byte) (s : State) : Out := .next ((s.decAt (s.ixd d)).addT (s.cost (.decIxd d)))

/-- `ADD A,(IX+d)` (R213). -/
def execAddAIxd (d : Byte) (s : State) : Out :=
  .next (((s.afterRd (s.ixd d)).aluAdd (s.rd (s.ixd d)) false).addT (s.cost (.addAIxd d)))

/-- `ADC A,(IX+d)` (R218). -/
def execAdcAIxd (d : Byte) (s : State) : Out :=
  .next (((s.afterRd (s.ixd d)).aluAdd (s.rd (s.ixd d)) s.main.f.c).addT (s.cost (.adcAIxd d)))

/-- `SUB (IX+d)` (R223). -/
def execSubIxd (d : Byte) (s : State) : Out :=
  .next (((s.afterRd (s.ixd d)).aluSub (s.rd (s.ixd d)) false).addT (s.cost (.subIxd d)))

/-- `SBC A,(IX+d)` (R228). -/
def execSbcAIxd (d : Byte) (s : State) : Out :=
  .next (((s.afterRd (s.ixd d)).aluSub (s.rd (s.ixd d)) s.main.f.c).addT (s.cost (.sbcAIxd d)))

/-- `AND (IX+d)` (R233). -/
def execAndIxd (d : Byte) (s : State) : Out :=
  .next (((s.afterRd (s.ixd d)).aluAnd (s.rd (s.ixd d))).addT (s.cost (.andIxd d)))

/-- `XOR (IX+d)` (R238). -/
def execXorIxd (d : Byte) (s : State) : Out :=
  .next (((s.afterRd (s.ixd d)).aluXor (s.rd (s.ixd d))).addT (s.cost (.xorIxd d)))

/-- `OR (IX+d)` (R243). -/
def execOrIxd (d : Byte) (s : State) : Out :=
  .next (((s.afterRd (s.ixd d)).aluOr (s.rd (s.ixd d))).addT (s.cost (.orIxd d)))

/-- `CP (IX+d)` (R248). -/
def execCpIxd (d : Byte) (s : State) : Out :=
  .next (((s.afterRd (s.ixd d)).aluCp (s.rd (s.ixd d))).addT (s.cost (.cpIxd d)))

/-- `INC (IY+d)` (R261). -/
def execIncIyd (d : Byte) (s : State) : Out := .next ((s.incAt (s.iyd d)).addT (s.cost (.incIyd d)))

/-- `DEC (IY+d)` (R265). -/
def execDecIyd (d : Byte) (s : State) : Out := .next ((s.decAt (s.iyd d)).addT (s.cost (.decIyd d)))

/-- `ADD A,(IY+d)` (R214). -/
def execAddAIyd (d : Byte) (s : State) : Out :=
  .next (((s.afterRd (s.iyd d)).aluAdd (s.rd (s.iyd d)) false).addT (s.cost (.addAIyd d)))

/-- `ADC A,(IY+d)` (R219). -/
def execAdcAIyd (d : Byte) (s : State) : Out :=
  .next (((s.afterRd (s.iyd d)).aluAdd (s.rd (s.iyd d)) s.main.f.c).addT (s.cost (.adcAIyd d)))

/-- `SUB (IY+d)` (R224). -/
def execSubIyd (d : Byte) (s : State) : Out :=
  .next (((s.afterRd (s.iyd d)).aluSub (s.rd (s.iyd d)) false).addT (s.cost (.subIyd d)))

/-- `SBC A,(IY+d)` (R229). -/
def execSbcAIyd (d : Byte) (s : State) : Out :=
  .next (((s.afterRd (s.iyd d)).aluSub (s.rd (s.iyd d)) s.main.f.c).addT (s.cost (.sbcAIyd d)))

/-- `AND (IY+d)` (R234). -/
def execAndIyd (d : Byte) (s : State) : Out :=
  .next (((s.afterRd (s.iyd d)).aluAnd (s.rd (s.iyd d))).addT (s.cost (.andIyd d)))

/-- `XOR (IY+d)` (R239). -/
def execXorIyd (d : Byte) (s : State) : Out :=
  .next (((s.afterRd (s.iyd d)).aluXor (s.rd (s.iyd d))).addT (s.cost (.xorIyd d)))

/-- `OR (IY+d)` (R244). -/
def execOrIyd (d : Byte) (s : State) : Out :=
  .next (((s.afterRd (s.iyd d)).aluOr (s.rd (s.iyd d))).addT (s.cost (.orIyd d)))

/-- `CP (IY+d)` (R249). -/
def execCpIyd (d : Byte) (s : State) : Out :=
  .next (((s.afterRd (s.iyd d)).aluCp (s.rd (s.iyd d))).addT (s.cost (.cpIyd d)))

end Sys2Proof.Machine
end

