-- ==== Sys2Proof/Machine/BitOps.lean ====
section
/-! DEFINITION. The bit set, reset and test group (47_bit.md). -/

namespace Sys2Proof.Machine

/-- `BIT b,r` (R370). -/
def execBitBR (b : BitVec 3) (r : Reg8) (s : State) : Out :=
  .next ((s.testBit b (s.r8 r)).addT (s.cost (.bitBR b r)))

/-- `BIT b,(HL)` (R371). -/
def execBitBIndHl (b : BitVec 3) (s : State) : Out :=
  .next ((s.afterIndHl.testBit b s.indHl).addT (s.cost (.bitBIndHl b)))

/-- `RES b,r` (R378). -/
def execResBR (b : BitVec 3) (r : Reg8) (s : State) : Out :=
  .next ((s.setR8 r (s.r8 r &&& (0xFF#8 ^^^ bitMask b))).addT (s.cost (.resBR b r)))

/-- `RES b,(HL)` (R379). -/
def execResBIndHl (b : BitVec 3) (s : State) : Out := .next ((s.resBitAt b s.main.hl).addT (s.cost (.resBIndHl b)))

/-- `SET b,r` (R374). -/
def execSetBR (b : BitVec 3) (r : Reg8) (s : State) : Out :=
  .next ((s.setR8 r (s.r8 r ||| bitMask b)).addT (s.cost (.setBR b r)))

/-- `SET b,(HL)` (R375). -/
def execSetBIndHl (b : BitVec 3) (s : State) : Out := .next ((s.setBitAt b s.main.hl).addT (s.cost (.setBIndHl b)))

/-- `BIT b,(IX+d)` (R372). -/
def execBitBIxd (b : BitVec 3) (d : Byte) (s : State) : Out :=
  .next (((s.afterRd (s.ixd d)).testBit b (s.rd (s.ixd d))).addT (s.cost (.bitBIxd b d)))

/-- `RES b,(IX+d)` (R380). -/
def execResBIxd (b : BitVec 3) (d : Byte) (s : State) : Out :=
  .next ((s.resBitAt b (s.ixd d)).addT (s.cost (.resBIxd b d)))

/-- `SET b,(IX+d)` (R376). -/
def execSetBIxd (b : BitVec 3) (d : Byte) (s : State) : Out :=
  .next ((s.setBitAt b (s.ixd d)).addT (s.cost (.setBIxd b d)))

/-- `BIT b,(IY+d)` (R373). -/
def execBitBIyd (b : BitVec 3) (d : Byte) (s : State) : Out :=
  .next (((s.afterRd (s.iyd d)).testBit b (s.rd (s.iyd d))).addT (s.cost (.bitBIyd b d)))

/-- `RES b,(IY+d)` (R381). -/
def execResBIyd (b : BitVec 3) (d : Byte) (s : State) : Out :=
  .next ((s.resBitAt b (s.iyd d)).addT (s.cost (.resBIyd b d)))

/-- `SET b,(IY+d)` (R377). -/
def execSetBIyd (b : BitVec 3) (d : Byte) (s : State) : Out :=
  .next ((s.setBitAt b (s.iyd d)).addT (s.cost (.setBIyd b d)))

end Sys2Proof.Machine
end

