-- ==== Sys2Proof/Machine/Control.lean ====
section
/-! DEFINITION. General-purpose arithmetic and CPU control (44_general_control.md); EI is in Machine/Nested.lean. -/

namespace Sys2Proof.Machine

/-- `NOP` (R285). -/
def execNop (s : State) : Out := .next (s.addT (s.cost .nop))

/-- `DAA` (R280). -/
def execDaa (s : State) : Out :=
  .next (((s.setA (daa s.main.a s.main.f)).writeFlags (daaFlags s.main.a s.main.f)).addT (s.cost .daa))

/-- `CPL` (R281). -/
def execCpl (s : State) : Out :=
  .next (((s.setA (s.main.a ^^^ 0xFF#8)).writeFlags { s.main.f with h := true, n := true }).addT (s.cost .cpl))

/-- `SCF` (R284). -/
def execScf (s : State) : Out :=
  .next ((s.writeFlags { s.main.f with h := false, n := false, c := true }).addT (s.cost .scf))

/-- `CCF` (R283). -/
def execCcf (s : State) : Out :=
  .next ((s.writeFlags { s.main.f with h := s.main.f.c, n := false, c := !s.main.f.c }).addT (s.cost .ccf))

/-- `HALT` (R286). -/
def execHalt (s : State) : Out := .next ({ s with halted := true }.addT (s.cost .halt))

/-- `DI` (R287). -/
def execDi (s : State) : Out := .next ({ s with iff1 := false, iff2 := false }.addT (s.cost .di))

/-- `NEG` (R282). -/
def execNeg (s : State) : Out :=
  .next (((s.setA (sub8 0#8 s.main.a false)).writeFlags (sub8Flags s.main.f 0#8 s.main.a false)).addT (s.cost .neg))

/-- `IM 0` (R291). -/
def execIm0 (s : State) : Out := .next ({ s with im := .im0 }.addT (s.cost .im0))

/-- `IM 1` (R292). -/
def execIm1 (s : State) : Out := .next ({ s with im := .im1 }.addT (s.cost .im1))

/-- `IM 2` (R293). -/
def execIm2 (s : State) : Out := .next ({ s with im := .im2 }.addT (s.cost .im2))

end Sys2Proof.Machine
end

