-- ==== Sys2Proof/Machine/ExchangeBlock.lean ====
section
/-! DEFINITION. The exchange, block transfer and block search group (42_exchange_block.md). -/

namespace Sys2Proof.Machine

/-- AF and AF' exchanged (R191). -/
def State.exchangeAf (s : State) : State :=
  { s with
    main := { s.main with a := s.shadow.a, f := s.shadow.f }
    shadow := { s.shadow with a := s.main.a, f := s.main.f } }

/-- BC, DE and HL exchanged with BC', DE' and HL' (R192). -/
def State.exchangeBanks (s : State) : State :=
  { s with
    main := { s.shadow with a := s.main.a, f := s.main.f }
    shadow := { s.main with a := s.shadow.a, f := s.shadow.f } }

/-- `EX (SP),x` in memory: the word at SP read, then the high byte stored at SP+1 and the low byte at SP (R193). -/
def State.storeAtSp (s : State) (v : Word) : State :=
  ((s.afterRd16 s.sp).wr (s.sp + 1) (hiByte v)).wr s.sp (loByte v)

/-- One byte moved from (HL) to (DE); HL and DE move by `by_`, BC counts down; H = N = 0, P/V = (BC != 0)
(R197, R199). -/
def State.moveBlock (s : State) (by_ : Word) : State :=
  ((((s.afterIndHl.wr s.main.de s.indHl).setHl (s.main.hl + by_)).setDe (s.main.de + by_)).setBc
    (s.main.bc - 1)).writeFlags
    { s.main.f with h := false, p := s.main.bc - 1 != 0, n := false }

/-- One comparison of A with (HL); HL moves by `by_`, BC counts down; S, Z, H, N from the comparison,
P/V = (BC != 0), C kept (R201, R203). -/
def State.compareBlock (s : State) (by_ : Word) : State :=
  ((s.afterIndHl.setHl (s.main.hl + by_)).setBc (s.main.bc - 1)).writeFlags
    { sub8Flags s.main.f s.main.a s.indHl false with p := s.main.bc - 1 != 0, c := s.main.f.c }

/-- `EX AF,AF'` (R191). -/
def execExAfAf (s : State) : Out := .next (s.exchangeAf.addT (s.cost .exAfAf))

/-- `EXX` (R192). -/
def execExx (s : State) : Out := .next (s.exchangeBanks.addT (s.cost .exx))

/-- `EX (SP),HL` (R193). -/
def execExIndSpHl (s : State) : Out := .next (((s.storeAtSp s.main.hl).setHl s.popped).addT (s.cost .exIndSpHl))

/-- `EX DE,HL` (R190). -/
def execExDeHl (s : State) : Out := .next (((s.setDe s.main.hl).setHl s.main.de).addT (s.cost .exDeHl))

/-- `LDI` (R197). -/
def execLdi (s : State) : Out := .next ((s.moveBlock 1#16).addT (s.cost .ldi))

/-- `CPI` (R201). -/
def execCpi (s : State) : Out := .next ((s.compareBlock 1#16).addT (s.cost .cpi))

/-- `LDD` (R199). -/
def execLdd (s : State) : Out := .next ((s.moveBlock 0xFFFF#16).addT (s.cost .ldd))

/-- `CPD` (R203). -/
def execCpd (s : State) : Out := .next ((s.compareBlock 0xFFFF#16).addT (s.cost .cpd))

/-- `LDIR` (R198). -/
def execLdir (s : State) : Out := .next ((s.moveBlock 1#16).repeatIf .ldir (s.main.bc - 1 != 0))

/-- `CPIR` (R202). -/
def execCpir (s : State) : Out :=
  .next ((s.compareBlock 1#16).repeatIf .cpir (s.main.bc - 1 != 0 && s.main.a - s.indHl != 0))

/-- `LDDR` (R200). -/
def execLddr (s : State) : Out := .next ((s.moveBlock 0xFFFF#16).repeatIf .lddr (s.main.bc - 1 != 0))

/-- `CPDR` (R204). -/
def execCpdr (s : State) : Out :=
  .next ((s.compareBlock 0xFFFF#16).repeatIf .cpdr (s.main.bc - 1 != 0 && s.main.a - s.indHl != 0))

/-- `EX (SP),IX` (R194). -/
def execExIndSpIx (s : State) : Out := .next (((s.storeAtSp s.ix).setIx s.popped).addT (s.cost .exIndSpIx))

/-- `EX (SP),IY` (R195). -/
def execExIndSpIy (s : State) : Out := .next (((s.storeAtSp s.iy).setIy s.popped).addT (s.cost .exIndSpIy))

end Sys2Proof.Machine
end

