-- ==== Sys2Proof/Machine/Ports.lean ====
section
/-! DEFINITION. The VDP's port interface (61_vdp.md section 2) and the port bus (20_memory.md R66, R67). -/

namespace Sys2Proof.Machine

/-! ### The four VDP operations (R484 to R488) -/

/-- `WriteControl(value)`, first write: the low 8 bits of `addr`, and the latch (R484). -/
def Vdp.writeControlFirst (v : Vdp) (value : Byte) : Vdp :=
  { v with addr := v.addr.extractLsb' 8 6 ++ value, latch := true }

/-- `WriteControl(value)`, second write: the high 6 bits of `addr` and the code; code 0 pre-fetches a VRAM byte,
code 2 writes the low byte of the old `addr` into a register; codes 1 and 3 do nothing more (R484, C7). -/
def Vdp.writeControlSecond (v : Vdp) (value : Byte) : Vdp :=
  let addr : BitVec 14 := value.extractLsb' 0 6 ++ v.addr.extractLsb' 0 8
  let code : BitVec 2 := value.extractLsb' 6 2
  let loaded := { v with addr := addr, code := code, latch := false }
  if code = 0#2 then { loaded with readbuf := Vram.read v.vram addr, addr := addr + 1 }
  else if code = 2#2 then
    { loaded with vr := v.vr.set (value.extractLsb' 0 4).toNat (v.addr.extractLsb' 0 8) (BitVec.isLt _) }
  else loaded

/-- `WriteControl(value)` (R484). -/
def Vdp.writeControl (v : Vdp) (value : Byte) : Vdp :=
  if v.latch then v.writeControlSecond value else v.writeControlFirst value

/-- What `ReadControl()` does: status, interrupt flag and latch cleared (R485). It returns the old status. -/
def Vdp.afterReadControl (v : Vdp) : Vdp := { v with status := 0, irqPending := false, latch := false }

/-- `WriteData(value)`: CRAM when the code is 3, else VRAM (R486, R487). -/
def Vdp.writeData (v : Vdp) (value : Byte) : Vdp :=
  let stored :=
    if v.code = 3#2 then
      { v with cram := v.cram.set (v.addr.extractLsb' 0 5).toNat value (BitVec.isLt _) }
    else { v with vram := Vram.write v.vram v.addr value }
  { stored with latch := false, readbuf := value, addr := v.addr + 1 }

/-- What `ReadData()` does: the buffer refilled from VRAM, `addr` up by one, the latch cleared (R487, R488). It
returns the old buffer. -/
def Vdp.afterReadData (v : Vdp) : Vdp :=
  { v with readbuf := Vram.read v.vram v.addr, addr := v.addr + 1, latch := false }

/-- `HCounter()`: a pure read for the driver (R491). -/
def Vdp.hCounter (v : Vdp) : Byte := v.hcount.extractLsb' 0 8

/-- `VCounter()`: a pure read for the driver (R491). -/
def Vdp.vCounter (v : Vdp) : Byte := v.vcount

/-! ### The port bus (R11, R66, R67) -/

/-- `PortRead(hi, lo)` with the parameter `Ports`: the byte and the state after it, or `none` for InvalidPort. `hi` is
presented and not interpreted (R67). What a registered port other than the VDP's answers is a free value. Log
entry 12. -/
def State.portRead (s : State) (_hi lo : Byte) : Option (Byte × State) :=
  if lo = s.params.dataPort then some (s.vdp.readbuf, { s with vdp := s.vdp.afterReadData })
  else if lo = s.params.ctrlPort then some (s.vdp.status, { s with vdp := s.vdp.afterReadControl })
  else if s.params.readPorts.contains lo then
    some (Config.deviceByte lo s.draws, { s with draws := s.draws + 1 })
  else none

/-- `PortWrite(hi, lo, v)`: the state after it, or `none` for InvalidPort. A write to a registered port other than the
VDP's does nothing inside the CORE. Log entry 12. -/
def State.portWrite (s : State) (_hi lo v : Byte) : Option State :=
  if lo = s.params.dataPort then some { s with vdp := s.vdp.writeData v }
  else if lo = s.params.ctrlPort then some { s with vdp := s.vdp.writeControl v }
  else if s.params.writePorts.contains lo then some s
  else none

/-- A port read that goes on with the byte read, or raises InvalidPort with what was done before (R451). -/
def State.inThen (s : State) (hi lo : Byte) (k : Byte → State → State) : Out :=
  match s.portRead hi lo with
  | some (v, t) => .next (k v t)
  | none => .next (s.raise (.invalidPort lo))

/-- A port write that goes on, or raises InvalidPort with what was done before (R451). -/
def State.outThen (s : State) (hi lo v : Byte) (k : State → State) : Out :=
  match s.portWrite hi lo v with
  | some t => .next (k t)
  | none => .next (s.raise (.invalidPort lo))

end Sys2Proof.Machine
end

