-- ==== Sys2Proof/Machine/InOut.lean ====
section
/-! DEFINITION. The input and output group (49_io.md). -/

namespace Sys2Proof.Machine

/-- The flags of block input and output: Z from the decremented B, N = 1, C kept; S, H and P/V free values
(R422, D19). Log entry 10. -/
def State.blockIoFlags (s : State) (b : Byte) : State :=
  s.writeFlags
    { s.main.f with
      s := Config.freeFlag .s s.draws
      z := b == 0
      h := Config.freeFlag .h s.draws
      p := Config.freeFlag .p s.draws
      n := true }

/-- What INI and IND do after the port read: `v` to (HL), B counts down, HL moves by `by_`, flags (R422). -/
def State.inBlock (s : State) (by_ : Word) (v : Byte) : State :=
  (((s.wr s.main.hl v).setB (s.main.b - 1)).setHl (s.main.hl + by_)).blockIoFlags (s.main.b - 1)

/-- What OUTI and OUTD do after the port write, B already counted down: HL moves by `by_`, flags (R428). -/
def State.outBlock (s : State) (by_ : Word) : State := (s.setHl (s.main.hl + by_)).blockIoFlags s.main.b

/-- `OUT (n),A` (R426). -/
def execOutPortNA (n : Byte) (s : State) : Out :=
  s.outThen s.main.a n s.main.a (fun u => u.addT (s.cost (.outPortNA n)))

/-- `IN A,(n)` (R420). -/
def execInAPortN (n : Byte) (s : State) : Out :=
  s.inThen s.main.a n (fun v u => (u.setA v).addT (s.cost (.inAPortN n)))

/-- `IN r,(C)` (R421). -/
def execInRPortC (r : Reg8) (s : State) : Out :=
  s.inThen s.main.b s.main.c (fun v u =>
    ((u.setR8 r v).writeFlags { szp8 u.main.f v with h := false, n := false }).addT (s.cost (.inRPortC r)))

/-- `OUT (C),r` (R427). -/
def execOutPortCR (r : Reg8) (s : State) : Out :=
  s.outThen s.main.b s.main.c (s.r8 r) (fun u => u.addT (s.cost (.outPortCR r)))

/-- `INI` (R422). -/
def execIni (s : State) : Out := s.inThen s.main.b s.main.c (fun v u => (u.inBlock 1#16 v).addT (s.cost .ini))

/-- `OUTI` (R428). -/
def execOuti (s : State) : Out :=
  (s.afterIndHl.setB (s.main.b - 1)).outThen (s.main.b - 1) s.main.c s.indHl
    (fun u => (u.outBlock 1#16).addT (s.cost .outi))

/-- `IND` (R424). -/
def execInd (s : State) : Out := s.inThen s.main.b s.main.c (fun v u => (u.inBlock 0xFFFF#16 v).addT (s.cost .ind))

/-- `OUTD` (R430). -/
def execOutd (s : State) : Out :=
  (s.afterIndHl.setB (s.main.b - 1)).outThen (s.main.b - 1) s.main.c s.indHl
    (fun u => (u.outBlock 0xFFFF#16).addT (s.cost .outd))

/-- `INIR` (R423). -/
def execInir (s : State) : Out :=
  s.inThen s.main.b s.main.c (fun v u => (u.inBlock 1#16 v).repeatIf .inir (s.main.b - 1 != 0))

/-- `OTIR` (R429). -/
def execOtir (s : State) : Out :=
  (s.afterIndHl.setB (s.main.b - 1)).outThen (s.main.b - 1) s.main.c s.indHl
    (fun u => (u.outBlock 1#16).repeatIf .otir (s.main.b - 1 != 0))

/-- `INDR` (R425). -/
def execIndr (s : State) : Out :=
  s.inThen s.main.b s.main.c (fun v u => (u.inBlock 0xFFFF#16 v).repeatIf .indr (s.main.b - 1 != 0))

/-- `OTDR` (R431). -/
def execOtdr (s : State) : Out :=
  (s.afterIndHl.setB (s.main.b - 1)).outThen (s.main.b - 1) s.main.c s.indHl
    (fun u => (u.outBlock 0xFFFF#16).repeatIf .otdr (s.main.b - 1 != 0))

end Sys2Proof.Machine
end

