-- ==== Sys2Proof/Machine/JumpCall.lean ====
section
/-! DEFINITION. The jump, call and return group (48_jump_call.md). -/

namespace Sys2Proof.Machine

/-- `DJNZ e` (R400). -/
def execDjnzE (e : Byte) (s : State) : Out :=
  if s.main.b - 1 != 0 then .next (((s.setB (s.main.b - 1)).jumpRelative e).addT (s.cost (.djnzE e)))
  else .next ((s.setB (s.main.b - 1)).addT (s.costElse (.djnzE e)))

/-- `JR e` (R392). -/
def execJrE (e : Byte) (s : State) : Out := .next ((s.jumpRelative e).addT (s.cost (.jrE e)))

/-- `JR NZ,e` (R396). -/
def execJrNzE (e : Byte) (s : State) : Out :=
  if s.main.f.cond .nz then .next ((s.jumpRelative e).addT (s.cost (.jrNzE e)))
  else .next (s.addT (s.costElse (.jrNzE e)))

/-- `JR Z,e` (R395). -/
def execJrZE (e : Byte) (s : State) : Out :=
  if s.main.f.cond .z then .next ((s.jumpRelative e).addT (s.cost (.jrZE e)))
  else .next (s.addT (s.costElse (.jrZE e)))

/-- `JR NC,e` (R394). -/
def execJrNcE (e : Byte) (s : State) : Out :=
  if s.main.f.cond .nc then .next ((s.jumpRelative e).addT (s.cost (.jrNcE e)))
  else .next (s.addT (s.costElse (.jrNcE e)))

/-- `JR C,e` (R393). -/
def execJrCE (e : Byte) (s : State) : Out :=
  if s.main.f.cond .c then .next ((s.jumpRelative e).addT (s.cost (.jrCE e)))
  else .next (s.addT (s.costElse (.jrCE e)))

/-- `RET cc` (R411). -/
def execRetCc (cc : Cond) (s : State) : Out :=
  if s.main.f.cond cc then .next (s.popPc.addT (s.cost (.retCc cc))) else .next (s.addT (s.costElse (.retCc cc)))

/-- `RET` (R410). -/
def execRet (s : State) : Out := .next (s.popPc.addT (s.cost .ret))

/-- `JP (HL)` (R397). -/
def execJpIndHl (s : State) : Out := .next ((s.setPc s.main.hl).addT (s.cost .jpIndHl))

/-- `JP cc,nn` (R391). -/
def execJpCcNn (cc : Cond) (nn : Word) (s : State) : Out :=
  if s.main.f.cond cc then .next ((s.setPc nn).addT (s.cost (.jpCcNn cc nn)))
  else .next (s.addT (s.costElse (.jpCcNn cc nn)))

/-- `JP nn` (R390). -/
def execJpNn (nn : Word) (s : State) : Out := .next ((s.setPc nn).addT (s.cost (.jpNn nn)))

/-- `CALL cc,nn` (R409). -/
def execCallCcNn (cc : Cond) (nn : Word) (s : State) : Out :=
  if s.main.f.cond cc then .next (((s.push16 s.pc).setPc nn).addT (s.cost (.callCcNn cc nn)))
  else .next (s.addT (s.costElse (.callCcNn cc nn)))

/-- `CALL nn` (R408). -/
def execCallNn (nn : Word) (s : State) : Out := .next (((s.push16 s.pc).setPc nn).addT (s.cost (.callNn nn)))

/-- `RST p` (R414). -/
def execRstP (t : BitVec 3) (s : State) : Out :=
  .next (((s.push16 s.pc).setPc (BitVec.ofNat 16 (8 * t.toNat))).addT (s.cost (.rstP t)))

/-- `RETN` (R413). -/
def execRetn (s : State) : Out := .next (s.returnFromInterrupt.addT (s.cost .retn))

/-- `RETI` (R412). -/
def execReti (s : State) : Out := .next (s.returnFromInterrupt.addT (s.cost .reti))

/-- `JP (IX)` (R398). -/
def execJpIndIx (s : State) : Out := .next ((s.setPc s.ix).addT (s.cost .jpIndIx))

/-- `JP (IY)` (R399). -/
def execJpIndIy (s : State) : Out := .next ((s.setPc s.iy).addT (s.cost .jpIndIy))

end Sys2Proof.Machine
end

