-- ==== Sys2Proof/Machine/Load16.lean ====
section
/-! DEFINITION. The 16-bit load and stack group (41_load16.md). -/

namespace Sys2Proof.Machine

/-- `LD dd,nn` (R160). -/
def execLdDdNn (dd : Pair) (nn : Word) (s : State) : Out := .next ((s.setPair dd nn).addT (s.cost (.ldDdNn dd nn)))

/-- `LD (nn),HL` (R167). -/
def execLdIndNnHl (nn : Word) (s : State) : Out := .next ((s.wr16 nn s.main.hl).addT (s.cost (.ldIndNnHl nn)))

/-- `LD HL,(nn)` (R163). -/
def execLdHlIndNn (nn : Word) (s : State) : Out :=
  .next (((s.afterRd16 nn).setHl (s.rd16 nn)).addT (s.cost (.ldHlIndNn nn)))

/-- `POP qq` (R177). -/
def execPopQq (qq : StackPair) (s : State) : Out :=
  .next ((s.drop16.setStackPair qq s.popped).addT (s.cost (.popQq qq)))

/-- `LD SP,HL` (R171). -/
def execLdSpHl (s : State) : Out := .next ((s.setSp s.main.hl).addT (s.cost .ldSpHl))

/-- `PUSH qq` (R174). -/
def execPushQq (qq : StackPair) (s : State) : Out := .next ((s.push16 (s.stackPair qq)).addT (s.cost (.pushQq qq)))

/-- `LD (nn),dd` (R168). -/
def execLdIndNnDd (nn : Word) (dd : Pair) (s : State) : Out :=
  .next ((s.wr16 nn (s.pair dd)).addT (s.cost (.ldIndNnDd nn dd)))

/-- `LD dd,(nn)` (R164). -/
def execLdDdIndNn (dd : Pair) (nn : Word) (s : State) : Out :=
  .next (((s.afterRd16 nn).setPair dd (s.rd16 nn)).addT (s.cost (.ldDdIndNn dd nn)))

/-- `LD IX,nn` (R161). -/
def execLdIxNn (nn : Word) (s : State) : Out := .next ((s.setIx nn).addT (s.cost (.ldIxNn nn)))

/-- `LD (nn),IX` (R169). -/
def execLdIndNnIx (nn : Word) (s : State) : Out := .next ((s.wr16 nn s.ix).addT (s.cost (.ldIndNnIx nn)))

/-- `LD IX,(nn)` (R165). -/
def execLdIxIndNn (nn : Word) (s : State) : Out :=
  .next (((s.afterRd16 nn).setIx (s.rd16 nn)).addT (s.cost (.ldIxIndNn nn)))

/-- `POP IX` (R178). -/
def execPopIx (s : State) : Out := .next ((s.drop16.setIx s.popped).addT (s.cost .popIx))

/-- `PUSH IX` (R175). -/
def execPushIx (s : State) : Out := .next ((s.push16 s.ix).addT (s.cost .pushIx))

/-- `LD SP,IX` (R172). -/
def execLdSpIx (s : State) : Out := .next ((s.setSp s.ix).addT (s.cost .ldSpIx))

/-- `LD IY,nn` (R162). -/
def execLdIyNn (nn : Word) (s : State) : Out := .next ((s.setIy nn).addT (s.cost (.ldIyNn nn)))

/-- `LD (nn),IY` (R170). -/
def execLdIndNnIy (nn : Word) (s : State) : Out := .next ((s.wr16 nn s.iy).addT (s.cost (.ldIndNnIy nn)))

/-- `LD IY,(nn)` (R166). -/
def execLdIyIndNn (nn : Word) (s : State) : Out :=
  .next (((s.afterRd16 nn).setIy (s.rd16 nn)).addT (s.cost (.ldIyIndNn nn)))

/-- `POP IY` (R179). -/
def execPopIy (s : State) : Out := .next ((s.drop16.setIy s.popped).addT (s.cost .popIy))

/-- `PUSH IY` (R176). -/
def execPushIy (s : State) : Out := .next ((s.push16 s.iy).addT (s.cost .pushIy))

/-- `LD SP,IY` (R173). -/
def execLdSpIy (s : State) : Out := .next ((s.setSp s.iy).addT (s.cost .ldSpIy))

end Sys2Proof.Machine
end

