-- ==== Sys2Proof/Machine/Load8.lean ====
section
/-! DEFINITION. The 8-bit load group (40_load8.md). -/

namespace Sys2Proof.Machine

/-- `A <- v` for I or R, with S and Z from the value, H = N = 0, P/V = IFF2, C kept (R147, R148, D25). -/
def State.loadIr (s : State) (v : Byte) : State :=
  (s.setA v).writeFlags { s.main.f with s := v.msb, z := v == 0, h := false, p := s.iff2, n := false }

/-- `LD (BC),A` (R144). -/
def execLdIndBcA (s : State) : Out := .next ((s.wr s.main.bc s.main.a).addT (s.cost .ldIndBcA))

/-- `LD A,(BC)` (R141). -/
def execLdAIndBc (s : State) : Out := .next (((s.afterRd s.main.bc).setA (s.rd s.main.bc)).addT (s.cost .ldAIndBc))

/-- `LD (DE),A` (R145). -/
def execLdIndDeA (s : State) : Out := .next ((s.wr s.main.de s.main.a).addT (s.cost .ldIndDeA))

/-- `LD A,(DE)` (R142). -/
def execLdAIndDe (s : State) : Out := .next (((s.afterRd s.main.de).setA (s.rd s.main.de)).addT (s.cost .ldAIndDe))

/-- `LD (nn),A` (R146). -/
def execLdIndNnA (nn : Word) (s : State) : Out := .next ((s.wr nn s.main.a).addT (s.cost (.ldIndNnA nn)))

/-- `LD A,(nn)` (R143). -/
def execLdAIndNn (nn : Word) (s : State) : Out :=
  .next (((s.afterRd nn).setA (s.rd nn)).addT (s.cost (.ldAIndNn nn)))

/-- `LD r,n` (R131). -/
def execLdRN (r : Reg8) (n : Byte) (s : State) : Out := .next ((s.setR8 r n).addT (s.cost (.ldRN r n)))

/-- `LD (HL),n` (R138). -/
def execLdIndHlN (n : Byte) (s : State) : Out := .next ((s.wr s.main.hl n).addT (s.cost (.ldIndHlN n)))

/-- `LD r,r'` (R130). -/
def execLdRR (r : Reg8) (r' : Reg8) (s : State) : Out := .next ((s.setR8 r (s.r8 r')).addT (s.cost (.ldRR r r')))

/-- `LD r,(HL)` (R132). -/
def execLdRIndHl (r : Reg8) (s : State) : Out := .next ((s.afterIndHl.setR8 r s.indHl).addT (s.cost (.ldRIndHl r)))

/-- `LD (HL),r` (R135). -/
def execLdIndHlR (r : Reg8) (s : State) : Out := .next ((s.wr s.main.hl (s.r8 r)).addT (s.cost (.ldIndHlR r)))

/-- `LD I,A` (R149). -/
def execLdIA (s : State) : Out := .next ({ s with i := s.main.a }.addT (s.cost .ldIA))

/-- `LD R,A` (R150). -/
def execLdRA (s : State) : Out := .next ({ s with r := s.main.a }.addT (s.cost .ldRA))

/-- `LD A,I` (R147). -/
def execLdAI (s : State) : Out := .next ((s.loadIr s.i).addT (s.cost .ldAI))

/-- `LD A,R` (R148). -/
def execLdAR (s : State) : Out := .next ((s.loadIr s.r).addT (s.cost .ldAR))

/-- `LD (IX+d),n` (R139). -/
def execLdIxdN (d : Byte) (n : Byte) (s : State) : Out := .next ((s.wr (s.ixd d) n).addT (s.cost (.ldIxdN d n)))

/-- `LD r,(IX+d)` (R133). -/
def execLdRIxd (r : Reg8) (d : Byte) (s : State) : Out :=
  .next (((s.afterRd (s.ixd d)).setR8 r (s.rd (s.ixd d))).addT (s.cost (.ldRIxd r d)))

/-- `LD (IX+d),r` (R136). -/
def execLdIxdR (d : Byte) (r : Reg8) (s : State) : Out :=
  .next ((s.wr (s.ixd d) (s.r8 r)).addT (s.cost (.ldIxdR d r)))

/-- `LD (IY+d),n` (R140). -/
def execLdIydN (d : Byte) (n : Byte) (s : State) : Out := .next ((s.wr (s.iyd d) n).addT (s.cost (.ldIydN d n)))

/-- `LD r,(IY+d)` (R134). -/
def execLdRIyd (r : Reg8) (d : Byte) (s : State) : Out :=
  .next (((s.afterRd (s.iyd d)).setR8 r (s.rd (s.iyd d))).addT (s.cost (.ldRIyd r d)))

/-- `LD (IY+d),r` (R137). -/
def execLdIydR (d : Byte) (r : Reg8) (s : State) : Out :=
  .next ((s.wr (s.iyd d) (s.r8 r)).addT (s.cost (.ldIydR d r)))

end Sys2Proof.Machine
end

