-- ==== Sys2Proof/Machine/RotateShift.lean ====
section
/-! DEFINITION. The rotate and shift group (46_rotate_shift.md). -/

namespace Sys2Proof.Machine

/-- RLD: A low to m low, m low to m high, m high to A low; S, Z, P/V from the new A, C kept (R356). -/
def State.rotateDigitLeft (s : State) : State :=
  let m := s.indHl
  let a : Byte := s.main.a.extractLsb' 4 4 ++ m.extractLsb' 4 4
  ((s.afterIndHl.wr s.main.hl (m.extractLsb' 0 4 ++ s.main.a.extractLsb' 0 4)).setA a).writeFlags
    { szp8 s.main.f a with h := false, n := false }

/-- RRD: A low to m high, m high to m low, m low to A low; S, Z, P/V from the new A, C kept (R357). -/
def State.rotateDigitRight (s : State) : State :=
  let m := s.indHl
  let a : Byte := s.main.a.extractLsb' 4 4 ++ m.extractLsb' 0 4
  ((s.afterIndHl.wr s.main.hl (s.main.a.extractLsb' 0 4 ++ m.extractLsb' 4 4)).setA a).writeFlags
    { szp8 s.main.f a with h := false, n := false }

/-- `RLCA` (R320). -/
def execRlca (s : State) : Out := .next ((s.rotA .rlc).addT (s.cost .rlca))

/-- `RRCA` (R322). -/
def execRrca (s : State) : Out := .next ((s.rotA .rrc).addT (s.cost .rrca))

/-- `RLA` (R321). -/
def execRla (s : State) : Out := .next ((s.rotA .rl).addT (s.cost .rla))

/-- `RRA` (R323). -/
def execRra (s : State) : Out := .next ((s.rotA .rr).addT (s.cost .rra))

/-- `RLC r` (R324). -/
def execRlcR (r : Reg8) (s : State) : Out := .next ((s.rotR .rlc r).addT (s.cost (.rlcR r)))

/-- `RLC (HL)` (R325). -/
def execRlcIndHl (s : State) : Out := .next ((s.rotAt .rlc s.main.hl).addT (s.cost .rlcIndHl))

/-- `RRC r` (R328). -/
def execRrcR (r : Reg8) (s : State) : Out := .next ((s.rotR .rrc r).addT (s.cost (.rrcR r)))

/-- `RRC (HL)` (R329). -/
def execRrcIndHl (s : State) : Out := .next ((s.rotAt .rrc s.main.hl).addT (s.cost .rrcIndHl))

/-- `RL r` (R332). -/
def execRlR (r : Reg8) (s : State) : Out := .next ((s.rotR .rl r).addT (s.cost (.rlR r)))

/-- `RL (HL)` (R333). -/
def execRlIndHl (s : State) : Out := .next ((s.rotAt .rl s.main.hl).addT (s.cost .rlIndHl))

/-- `RR r` (R336). -/
def execRrR (r : Reg8) (s : State) : Out := .next ((s.rotR .rr r).addT (s.cost (.rrR r)))

/-- `RR (HL)` (R337). -/
def execRrIndHl (s : State) : Out := .next ((s.rotAt .rr s.main.hl).addT (s.cost .rrIndHl))

/-- `SLA r` (R340). -/
def execSlaR (r : Reg8) (s : State) : Out := .next ((s.rotR .sla r).addT (s.cost (.slaR r)))

/-- `SLA (HL)` (R341). -/
def execSlaIndHl (s : State) : Out := .next ((s.rotAt .sla s.main.hl).addT (s.cost .slaIndHl))

/-- `SRA r` (R344). -/
def execSraR (r : Reg8) (s : State) : Out := .next ((s.rotR .sra r).addT (s.cost (.sraR r)))

/-- `SRA (HL)` (R345). -/
def execSraIndHl (s : State) : Out := .next ((s.rotAt .sra s.main.hl).addT (s.cost .sraIndHl))

/-- `SLL r` (R348). -/
def execSllR (r : Reg8) (s : State) : Out := .next ((s.rotR .sll r).addT (s.cost (.sllR r)))

/-- `SLL (HL)` (R349). -/
def execSllIndHl (s : State) : Out := .next ((s.rotAt .sll s.main.hl).addT (s.cost .sllIndHl))

/-- `SRL r` (R352). -/
def execSrlR (r : Reg8) (s : State) : Out := .next ((s.rotR .srl r).addT (s.cost (.srlR r)))

/-- `SRL (HL)` (R353). -/
def execSrlIndHl (s : State) : Out := .next ((s.rotAt .srl s.main.hl).addT (s.cost .srlIndHl))

/-- `RRD` (R357). -/
def execRrd (s : State) : Out := .next (s.rotateDigitRight.addT (s.cost .rrd))

/-- `RLD` (R356). -/
def execRld (s : State) : Out := .next (s.rotateDigitLeft.addT (s.cost .rld))

/-- `RLC (IX+d)` (R326). -/
def execRlcIxd (d : Byte) (s : State) : Out := .next ((s.rotAt .rlc (s.ixd d)).addT (s.cost (.rlcIxd d)))

/-- `RRC (IX+d)` (R330). -/
def execRrcIxd (d : Byte) (s : State) : Out := .next ((s.rotAt .rrc (s.ixd d)).addT (s.cost (.rrcIxd d)))

/-- `RL (IX+d)` (R334). -/
def execRlIxd (d : Byte) (s : State) : Out := .next ((s.rotAt .rl (s.ixd d)).addT (s.cost (.rlIxd d)))

/-- `RR (IX+d)` (R338). -/
def execRrIxd (d : Byte) (s : State) : Out := .next ((s.rotAt .rr (s.ixd d)).addT (s.cost (.rrIxd d)))

/-- `SLA (IX+d)` (R342). -/
def execSlaIxd (d : Byte) (s : State) : Out := .next ((s.rotAt .sla (s.ixd d)).addT (s.cost (.slaIxd d)))

/-- `SRA (IX+d)` (R346). -/
def execSraIxd (d : Byte) (s : State) : Out := .next ((s.rotAt .sra (s.ixd d)).addT (s.cost (.sraIxd d)))

/-- `SLL (IX+d)` (R350). -/
def execSllIxd (d : Byte) (s : State) : Out := .next ((s.rotAt .sll (s.ixd d)).addT (s.cost (.sllIxd d)))

/-- `SRL (IX+d)` (R354). -/
def execSrlIxd (d : Byte) (s : State) : Out := .next ((s.rotAt .srl (s.ixd d)).addT (s.cost (.srlIxd d)))

/-- `RLC (IY+d)` (R327). -/
def execRlcIyd (d : Byte) (s : State) : Out := .next ((s.rotAt .rlc (s.iyd d)).addT (s.cost (.rlcIyd d)))

/-- `RRC (IY+d)` (R331). -/
def execRrcIyd (d : Byte) (s : State) : Out := .next ((s.rotAt .rrc (s.iyd d)).addT (s.cost (.rrcIyd d)))

/-- `RL (IY+d)` (R335). -/
def execRlIyd (d : Byte) (s : State) : Out := .next ((s.rotAt .rl (s.iyd d)).addT (s.cost (.rlIyd d)))

/-- `RR (IY+d)` (R339). -/
def execRrIyd (d : Byte) (s : State) : Out := .next ((s.rotAt .rr (s.iyd d)).addT (s.cost (.rrIyd d)))

/-- `SLA (IY+d)` (R343). -/
def execSlaIyd (d : Byte) (s : State) : Out := .next ((s.rotAt .sla (s.iyd d)).addT (s.cost (.slaIyd d)))

/-- `SRA (IY+d)` (R347). -/
def execSraIyd (d : Byte) (s : State) : Out := .next ((s.rotAt .sra (s.iyd d)).addT (s.cost (.sraIyd d)))

/-- `SLL (IY+d)` (R351). -/
def execSllIyd (d : Byte) (s : State) : Out := .next ((s.rotAt .sll (s.iyd d)).addT (s.cost (.sllIyd d)))

/-- `SRL (IY+d)` (R355). -/
def execSrlIyd (d : Byte) (s : State) : Out := .next ((s.rotAt .srl (s.iyd d)).addT (s.cost (.srlIyd d)))

end Sys2Proof.Machine
end

