-- ==== Sys2Proof/Machine/Undefined.lean ====
section
/-! DEFINITION. The class rows (30_encoding.md R97, R98): discarded prefixes and unknown keys. -/

namespace Sys2Proof.Machine

/-- `(unknown: half-index key)` (R98). -/
def execUnknownHalfIndexDd (op : Byte) (s : State) : Out := .next (s.raise (.unknownOpcode (.dd op)))

/-- `(discarded prefix)` (R97). -/
def execDiscardedPrefixDd (_op : Byte) (s : State) : Out := .next (s.setPc (s.pc - 1))

/-- `(unknown: DDCB with z != 6)` (R98). -/
def execUnknownDdcb (d : Byte) (op : Byte) (s : State) : Out :=
  .next (s.raise (.unknownOpcode (.ddcb d op)))

/-- `(unknown: half-index key)` (R98). -/
def execUnknownHalfIndexFd (op : Byte) (s : State) : Out := .next (s.raise (.unknownOpcode (.fd op)))

/-- `(discarded prefix)` (R97). -/
def execDiscardedPrefixFd (_op : Byte) (s : State) : Out := .next (s.setPc (s.pc - 1))

/-- `(unknown: FDCB with z != 6)` (R98). -/
def execUnknownFdcb (d : Byte) (op : Byte) (s : State) : Out :=
  .next (s.raise (.unknownOpcode (.fdcb d op)))

/-- `(unknown: undefined ED key)` (R98). -/
def execUnknownEd (op : Byte) (s : State) : Out := .next (s.raise (.unknownOpcode (.ed op)))

end Sys2Proof.Machine
end

