-- ==== Sys2Proof/Machine/Nested.lean ====
section
/-! DEFINITION. The step algorithm around one instruction (R441) and EI, whose nested `Step()` (R289) needs the
step algorithm before `exec` is there: `runInstr` is the dispatch table with the nested step as a parameter, and
Laws/Nested.lean proves that `exec` is `runInstr` with the full nesting bound. -/

namespace Sys2Proof.Machine

/-- A next state gone on with; a fault or a refusal is passed on. -/
def Out.mapNext (f : State → State) : Out → Out
  | .next s => .next (f s)
  | .fault r => .fault r
  | .refused r => .refused r

/-- `Step()` with `ex` as the meaning of a dispatched instruction (R441): NMI, maskable interrupt, idle (4 T-states,
the source's own number), or one instruction with its bytes fetched and PC past them; then the refresh of R (R27). -/
def cpuStepWith (ex : Instr → State → Out) (s : State) : Out :=
  Out.mapNext State.refreshR
    (if s.nmiPending then .next s.takeNmi
    else if s.intPending && s.im == .im1 && s.iff1 then .next s.takeInt
    else if s.halted then .next (s.addT 4)
    else ex s.fetchInstr (s.skip s.fetchInstr.size))

/-- EI with `nested` as its nested step (R289): its own T(4), the nested step, then both flip-flops set. A fault in
the nested step is passed on and nothing is set (D10). -/
def eiWith (nested : State → Out) (s : State) : Out :=
  match nested (s.addT (s.cost .ei)) with
  | .next t => if t.fault.isSome then .next t else .next { t with iff1 := true, iff2 := true }
  | .fault r => .fault r
  | .refused r => .refused r

/-- Dispatch (R96) with the nested step of EI as a parameter. -/
def runInstr (nested : State → Out) (i : Instr) (s : State) : Out :=
  match i with
  | .nop => execNop s
  | .exAfAf => execExAfAf s
  | .djnzE e => execDjnzE e s
  | .jrE e => execJrE e s
  | .jrNzE e => execJrNzE e s
  | .jrZE e => execJrZE e s
  | .jrNcE e => execJrNcE e s
  | .jrCE e => execJrCE e s
  | .ldDdNn dd nn => execLdDdNn dd nn s
  | .addHlSs ss => execAddHlSs ss s
  | .ldIndBcA => execLdIndBcA s
  | .ldAIndBc => execLdAIndBc s
  | .ldIndDeA => execLdIndDeA s
  | .ldAIndDe => execLdAIndDe s
  | .ldIndNnHl nn => execLdIndNnHl nn s
  | .ldHlIndNn nn => execLdHlIndNn nn s
  | .ldIndNnA nn => execLdIndNnA nn s
  | .ldAIndNn nn => execLdAIndNn nn s
  | .incSs ss => execIncSs ss s
  | .decSs ss => execDecSs ss s
  | .incR r => execIncR r s
  | .incIndHl => execIncIndHl s
  | .decR r => execDecR r s
  | .decIndHl => execDecIndHl s
  | .ldRN r n => execLdRN r n s
  | .ldIndHlN n => execLdIndHlN n s
  | .rlca => execRlca s
  | .rrca => execRrca s
  | .rla => execRla s
  | .rra => execRra s
  | .daa => execDaa s
  | .cpl => execCpl s
  | .scf => execScf s
  | .ccf => execCcf s
  | .ldRR r r' => execLdRR r r' s
  | .ldRIndHl r => execLdRIndHl r s
  | .ldIndHlR r => execLdIndHlR r s
  | .halt => execHalt s
  | .addAR r => execAddAR r s
  | .addAN n => execAddAN n s
  | .addAIndHl => execAddAIndHl s
  | .adcAR r => execAdcAR r s
  | .adcAN n => execAdcAN n s
  | .adcAIndHl => execAdcAIndHl s
  | .subR r => execSubR r s
  | .subN n => execSubN n s
  | .subIndHl => execSubIndHl s
  | .sbcAR r => execSbcAR r s
  | .sbcAN n => execSbcAN n s
  | .sbcAIndHl => execSbcAIndHl s
  | .andR r => execAndR r s
  | .andN n => execAndN n s
  | .andIndHl => execAndIndHl s
  | .xorR r => execXorR r s
  | .xorN n => execXorN n s
  | .xorIndHl => execXorIndHl s
  | .orR r => execOrR r s
  | .orN n => execOrN n s
  | .orIndHl => execOrIndHl s
  | .cpR r => execCpR r s
  | .cpN n => execCpN n s
  | .cpIndHl => execCpIndHl s
  | .retCc cc => execRetCc cc s
  | .popQq qq => execPopQq qq s
  | .ret => execRet s
  | .exx => execExx s
  | .jpIndHl => execJpIndHl s
  | .ldSpHl => execLdSpHl s
  | .jpCcNn cc nn => execJpCcNn cc nn s
  | .jpNn nn => execJpNn nn s
  | .outPortNA n => execOutPortNA n s
  | .inAPortN n => execInAPortN n s
  | .exIndSpHl => execExIndSpHl s
  | .exDeHl => execExDeHl s
  | .di => execDi s
  | .ei => eiWith nested s
  | .callCcNn cc nn => execCallCcNn cc nn s
  | .pushQq qq => execPushQq qq s
  | .callNn nn => execCallNn nn s
  | .rstP t => execRstP t s
  | .rlcR r => execRlcR r s
  | .rlcIndHl => execRlcIndHl s
  | .rrcR r => execRrcR r s
  | .rrcIndHl => execRrcIndHl s
  | .rlR r => execRlR r s
  | .rlIndHl => execRlIndHl s
  | .rrR r => execRrR r s
  | .rrIndHl => execRrIndHl s
  | .slaR r => execSlaR r s
  | .slaIndHl => execSlaIndHl s
  | .sraR r => execSraR r s
  | .sraIndHl => execSraIndHl s
  | .sllR r => execSllR r s
  | .sllIndHl => execSllIndHl s
  | .srlR r => execSrlR r s
  | .srlIndHl => execSrlIndHl s
  | .bitBR b r => execBitBR b r s
  | .bitBIndHl b => execBitBIndHl b s
  | .resBR b r => execResBR b r s
  | .resBIndHl b => execResBIndHl b s
  | .setBR b r => execSetBR b r s
  | .setBIndHl b => execSetBIndHl b s
  | .inRPortC r => execInRPortC r s
  | .outPortCR r => execOutPortCR r s
  | .sbcHlSs ss => execSbcHlSs ss s
  | .adcHlSs ss => execAdcHlSs ss s
  | .ldIndNnDd nn dd => execLdIndNnDd nn dd s
  | .ldDdIndNn dd nn => execLdDdIndNn dd nn s
  | .neg => execNeg s
  | .retn => execRetn s
  | .reti => execReti s
  | .im0 => execIm0 s
  | .im1 => execIm1 s
  | .im2 => execIm2 s
  | .ldIA => execLdIA s
  | .ldRA => execLdRA s
  | .ldAI => execLdAI s
  | .ldAR => execLdAR s
  | .rrd => execRrd s
  | .rld => execRld s
  | .ldi => execLdi s
  | .cpi => execCpi s
  | .ini => execIni s
  | .outi => execOuti s
  | .ldd => execLdd s
  | .cpd => execCpd s
  | .ind => execInd s
  | .outd => execOutd s
  | .ldir => execLdir s
  | .cpir => execCpir s
  | .inir => execInir s
  | .otir => execOtir s
  | .lddr => execLddr s
  | .cpdr => execCpdr s
  | .indr => execIndr s
  | .otdr => execOtdr s
  | .addIxPp pp => execAddIxPp pp s
  | .ldIxNn nn => execLdIxNn nn s
  | .ldIndNnIx nn => execLdIndNnIx nn s
  | .incIx => execIncIx s
  | .ldIxIndNn nn => execLdIxIndNn nn s
  | .decIx => execDecIx s
  | .incIxd d => execIncIxd d s
  | .decIxd d => execDecIxd d s
  | .ldIxdN d n => execLdIxdN d n s
  | .ldRIxd r d => execLdRIxd r d s
  | .ldIxdR d r => execLdIxdR d r s
  | .addAIxd d => execAddAIxd d s
  | .adcAIxd d => execAdcAIxd d s
  | .subIxd d => execSubIxd d s
  | .sbcAIxd d => execSbcAIxd d s
  | .andIxd d => execAndIxd d s
  | .xorIxd d => execXorIxd d s
  | .orIxd d => execOrIxd d s
  | .cpIxd d => execCpIxd d s
  | .popIx => execPopIx s
  | .exIndSpIx => execExIndSpIx s
  | .pushIx => execPushIx s
  | .jpIndIx => execJpIndIx s
  | .ldSpIx => execLdSpIx s
  | .rlcIxd d => execRlcIxd d s
  | .rrcIxd d => execRrcIxd d s
  | .rlIxd d => execRlIxd d s
  | .rrIxd d => execRrIxd d s
  | .slaIxd d => execSlaIxd d s
  | .sraIxd d => execSraIxd d s
  | .sllIxd d => execSllIxd d s
  | .srlIxd d => execSrlIxd d s
  | .bitBIxd b d => execBitBIxd b d s
  | .resBIxd b d => execResBIxd b d s
  | .setBIxd b d => execSetBIxd b d s
  | .addIyRr rr => execAddIyRr rr s
  | .ldIyNn nn => execLdIyNn nn s
  | .ldIndNnIy nn => execLdIndNnIy nn s
  | .incIy => execIncIy s
  | .ldIyIndNn nn => execLdIyIndNn nn s
  | .decIy => execDecIy s
  | .incIyd d => execIncIyd d s
  | .decIyd d => execDecIyd d s
  | .ldIydN d n => execLdIydN d n s
  | .ldRIyd r d => execLdRIyd r d s
  | .ldIydR d r => execLdIydR d r s
  | .addAIyd d => execAddAIyd d s
  | .adcAIyd d => execAdcAIyd d s
  | .subIyd d => execSubIyd d s
  | .sbcAIyd d => execSbcAIyd d s
  | .andIyd d => execAndIyd d s
  | .xorIyd d => execXorIyd d s
  | .orIyd d => execOrIyd d s
  | .cpIyd d => execCpIyd d s
  | .popIy => execPopIy s
  | .exIndSpIy => execExIndSpIy s
  | .pushIy => execPushIy s
  | .jpIndIy => execJpIndIy s
  | .ldSpIy => execLdSpIy s
  | .rlcIyd d => execRlcIyd d s
  | .rrcIyd d => execRrcIyd d s
  | .rlIyd d => execRlIyd d s
  | .rrIyd d => execRrIyd d s
  | .slaIyd d => execSlaIyd d s
  | .sraIyd d => execSraIyd d s
  | .sllIyd d => execSllIyd d s
  | .srlIyd d => execSrlIyd d s
  | .bitBIyd b d => execBitBIyd b d s
  | .resBIyd b d => execResBIyd b d s
  | .setBIyd b d => execSetBIyd b d s
  | .unknownHalfIndexDd op => execUnknownHalfIndexDd op s
  | .discardedPrefixDd op => execDiscardedPrefixDd op s
  | .unknownDdcb d op => execUnknownDdcb d op s
  | .unknownHalfIndexFd op => execUnknownHalfIndexFd op s
  | .discardedPrefixFd op => execDiscardedPrefixFd op s
  | .unknownFdcb d op => execUnknownFdcb d op s
  | .unknownEd op => execUnknownEd op s

/-- `Step()` with EI nesting at most `n - 1` deep; at the bound the machine is stuck (R289, U12). -/
def cpuStepFuel : Nat → State → Out
  | 0 => fun _ => .fault .eiRunaway
  | n + 1 => fun s => cpuStepWith (runInstr (cpuStepFuel n)) s

/-- `EI` (R289). -/
def execEi (s : State) : Out := eiWith (cpuStepFuel Config.eiNestingBound) s

end Sys2Proof.Machine
end

