-- ==== Sys2Proof/Machine/Dispatch.lean ====
section
/-! DEFINITION. One arm per constructor of `Instr`: the direct call of its meaning (R96). -/

namespace Sys2Proof.Machine

def exec (i : Instr) (s : State) : Host.Outcome State Fault Refusal :=
  match i with
  | .nop => Sys2Proof.Machine.execNop s
  | .exAfAf => Sys2Proof.Machine.execExAfAf s
  | .djnzE e => Sys2Proof.Machine.execDjnzE e s
  | .jrE e => Sys2Proof.Machine.execJrE e s
  | .jrNzE e => Sys2Proof.Machine.execJrNzE e s
  | .jrZE e => Sys2Proof.Machine.execJrZE e s
  | .jrNcE e => Sys2Proof.Machine.execJrNcE e s
  | .jrCE e => Sys2Proof.Machine.execJrCE e s
  | .ldDdNn dd nn => Sys2Proof.Machine.execLdDdNn dd nn s
  | .addHlSs ss => Sys2Proof.Machine.execAddHlSs ss s
  | .ldIndBcA => Sys2Proof.Machine.execLdIndBcA s
  | .ldAIndBc => Sys2Proof.Machine.execLdAIndBc s
  | .ldIndDeA => Sys2Proof.Machine.execLdIndDeA s
  | .ldAIndDe => Sys2Proof.Machine.execLdAIndDe s
  | .ldIndNnHl nn => Sys2Proof.Machine.execLdIndNnHl nn s
  | .ldHlIndNn nn => Sys2Proof.Machine.execLdHlIndNn nn s
  | .ldIndNnA nn => Sys2Proof.Machine.execLdIndNnA nn s
  | .ldAIndNn nn => Sys2Proof.Machine.execLdAIndNn nn s
  | .incSs ss => Sys2Proof.Machine.execIncSs ss s
  | .decSs ss => Sys2Proof.Machine.execDecSs ss s
  | .incR r => Sys2Proof.Machine.execIncR r s
  | .incIndHl => Sys2Proof.Machine.execIncIndHl s
  | .decR r => Sys2Proof.Machine.execDecR r s
  | .decIndHl => Sys2Proof.Machine.execDecIndHl s
  | .ldRN r n => Sys2Proof.Machine.execLdRN r n s
  | .ldIndHlN n => Sys2Proof.Machine.execLdIndHlN n s
  | .rlca => Sys2Proof.Machine.execRlca s
  | .rrca => Sys2Proof.Machine.execRrca s
  | .rla => Sys2Proof.Machine.execRla s
  | .rra => Sys2Proof.Machine.execRra s
  | .daa => Sys2Proof.Machine.execDaa s
  | .cpl => Sys2Proof.Machine.execCpl s
  | .scf => Sys2Proof.Machine.execScf s
  | .ccf => Sys2Proof.Machine.execCcf s
  | .ldRR r r' => Sys2Proof.Machine.execLdRR r r' s
  | .ldRIndHl r => Sys2Proof.Machine.execLdRIndHl r s
  | .ldIndHlR r => Sys2Proof.Machine.execLdIndHlR r s
  | .halt => Sys2Proof.Machine.execHalt s
  | .addAR r => Sys2Proof.Machine.execAddAR r s
  | .addAN n => Sys2Proof.Machine.execAddAN n s
  | .addAIndHl => Sys2Proof.Machine.execAddAIndHl s
  | .adcAR r => Sys2Proof.Machine.execAdcAR r s
  | .adcAN n => Sys2Proof.Machine.execAdcAN n s
  | .adcAIndHl => Sys2Proof.Machine.execAdcAIndHl s
  | .subR r => Sys2Proof.Machine.execSubR r s
  | .subN n => Sys2Proof.Machine.execSubN n s
  | .subIndHl => Sys2Proof.Machine.execSubIndHl s
  | .sbcAR r => Sys2Proof.Machine.execSbcAR r s
  | .sbcAN n => Sys2Proof.Machine.execSbcAN n s
  | .sbcAIndHl => Sys2Proof.Machine.execSbcAIndHl s
  | .andR r => Sys2Proof.Machine.execAndR r s
  | .andN n => Sys2Proof.Machine.execAndN n s
  | .andIndHl => Sys2Proof.Machine.execAndIndHl s
  | .xorR r => Sys2Proof.Machine.execXorR r s
  | .xorN n => Sys2Proof.Machine.execXorN n s
  | .xorIndHl => Sys2Proof.Machine.execXorIndHl s
  | .orR r => Sys2Proof.Machine.execOrR r s
  | .orN n => Sys2Proof.Machine.execOrN n s
  | .orIndHl => Sys2Proof.Machine.execOrIndHl s
  | .cpR r => Sys2Proof.Machine.execCpR r s
  | .cpN n => Sys2Proof.Machine.execCpN n s
  | .cpIndHl => Sys2Proof.Machine.execCpIndHl s
  | .retCc cc => Sys2Proof.Machine.execRetCc cc s
  | .popQq qq => Sys2Proof.Machine.execPopQq qq s
  | .ret => Sys2Proof.Machine.execRet s
  | .exx => Sys2Proof.Machine.execExx s
  | .jpIndHl => Sys2Proof.Machine.execJpIndHl s
  | .ldSpHl => Sys2Proof.Machine.execLdSpHl s
  | .jpCcNn cc nn => Sys2Proof.Machine.execJpCcNn cc nn s
  | .jpNn nn => Sys2Proof.Machine.execJpNn nn s
  | .outPortNA n => Sys2Proof.Machine.execOutPortNA n s
  | .inAPortN n => Sys2Proof.Machine.execInAPortN n s
  | .exIndSpHl => Sys2Proof.Machine.execExIndSpHl s
  | .exDeHl => Sys2Proof.Machine.execExDeHl s
  | .di => Sys2Proof.Machine.execDi s
  | .ei => Sys2Proof.Machine.execEi s
  | .callCcNn cc nn => Sys2Proof.Machine.execCallCcNn cc nn s
  | .pushQq qq => Sys2Proof.Machine.execPushQq qq s
  | .callNn nn => Sys2Proof.Machine.execCallNn nn s
  | .rstP t => Sys2Proof.Machine.execRstP t s
  | .rlcR r => Sys2Proof.Machine.execRlcR r s
  | .rlcIndHl => Sys2Proof.Machine.execRlcIndHl s
  | .rrcR r => Sys2Proof.Machine.execRrcR r s
  | .rrcIndHl => Sys2Proof.Machine.execRrcIndHl s
  | .rlR r => Sys2Proof.Machine.execRlR r s
  | .rlIndHl => Sys2Proof.Machine.execRlIndHl s
  | .rrR r => Sys2Proof.Machine.execRrR r s
  | .rrIndHl => Sys2Proof.Machine.execRrIndHl s
  | .slaR r => Sys2Proof.Machine.execSlaR r s
  | .slaIndHl => Sys2Proof.Machine.execSlaIndHl s
  | .sraR r => Sys2Proof.Machine.execSraR r s
  | .sraIndHl => Sys2Proof.Machine.execSraIndHl s
  | .sllR r => Sys2Proof.Machine.execSllR r s
  | .sllIndHl => Sys2Proof.Machine.execSllIndHl s
  | .srlR r => Sys2Proof.Machine.execSrlR r s
  | .srlIndHl => Sys2Proof.Machine.execSrlIndHl s
  | .bitBR b r => Sys2Proof.Machine.execBitBR b r s
  | .bitBIndHl b => Sys2Proof.Machine.execBitBIndHl b s
  | .resBR b r => Sys2Proof.Machine.execResBR b r s
  | .resBIndHl b => Sys2Proof.Machine.execResBIndHl b s
  | .setBR b r => Sys2Proof.Machine.execSetBR b r s
  | .setBIndHl b => Sys2Proof.Machine.execSetBIndHl b s
  | .inRPortC r => Sys2Proof.Machine.execInRPortC r s
  | .outPortCR r => Sys2Proof.Machine.execOutPortCR r s
  | .sbcHlSs ss => Sys2Proof.Machine.execSbcHlSs ss s
  | .adcHlSs ss => Sys2Proof.Machine.execAdcHlSs ss s
  | .ldIndNnDd nn dd => Sys2Proof.Machine.execLdIndNnDd nn dd s
  | .ldDdIndNn dd nn => Sys2Proof.Machine.execLdDdIndNn dd nn s
  | .neg => Sys2Proof.Machine.execNeg s
  | .retn => Sys2Proof.Machine.execRetn s
  | .reti => Sys2Proof.Machine.execReti s
  | .im0 => Sys2Proof.Machine.execIm0 s
  | .im1 => Sys2Proof.Machine.execIm1 s
  | .im2 => Sys2Proof.Machine.execIm2 s
  | .ldIA => Sys2Proof.Machine.execLdIA s
  | .ldRA => Sys2Proof.Machine.execLdRA s
  | .ldAI => Sys2Proof.Machine.execLdAI s
  | .ldAR => Sys2Proof.Machine.execLdAR s
  | .rrd => Sys2Proof.Machine.execRrd s
  | .rld => Sys2Proof.Machine.execRld s
  | .ldi => Sys2Proof.Machine.execLdi s
  | .cpi => Sys2Proof.Machine.execCpi s
  | .ini => Sys2Proof.Machine.execIni s
  | .outi => Sys2Proof.Machine.execOuti s
  | .ldd => Sys2Proof.Machine.execLdd s
  | .cpd => Sys2Proof.Machine.execCpd s
  | .ind => Sys2Proof.Machine.execInd s
  | .outd => Sys2Proof.Machine.execOutd s
  | .ldir => Sys2Proof.Machine.execLdir s
  | .cpir => Sys2Proof.Machine.execCpir s
  | .inir => Sys2Proof.Machine.execInir s
  | .otir => Sys2Proof.Machine.execOtir s
  | .lddr => Sys2Proof.Machine.execLddr s
  | .cpdr => Sys2Proof.Machine.execCpdr s
  | .indr => Sys2Proof.Machine.execIndr s
  | .otdr => Sys2Proof.Machine.execOtdr s
  | .addIxPp pp => Sys2Proof.Machine.execAddIxPp pp s
  | .ldIxNn nn => Sys2Proof.Machine.execLdIxNn nn s
  | .ldIndNnIx nn => Sys2Proof.Machine.execLdIndNnIx nn s
  | .incIx => Sys2Proof.Machine.execIncIx s
  | .ldIxIndNn nn => Sys2Proof.Machine.execLdIxIndNn nn s
  | .decIx => Sys2Proof.Machine.execDecIx s
  | .incIxd d => Sys2Proof.Machine.execIncIxd d s
  | .decIxd d => Sys2Proof.Machine.execDecIxd d s
  | .ldIxdN d n => Sys2Proof.Machine.execLdIxdN d n s
  | .ldRIxd r d => Sys2Proof.Machine.execLdRIxd r d s
  | .ldIxdR d r => Sys2Proof.Machine.execLdIxdR d r s
  | .addAIxd d => Sys2Proof.Machine.execAddAIxd d s
  | .adcAIxd d => Sys2Proof.Machine.execAdcAIxd d s
  | .subIxd d => Sys2Proof.Machine.execSubIxd d s
  | .sbcAIxd d => Sys2Proof.Machine.execSbcAIxd d s
  | .andIxd d => Sys2Proof.Machine.execAndIxd d s
  | .xorIxd d => Sys2Proof.Machine.execXorIxd d s
  | .orIxd d => Sys2Proof.Machine.execOrIxd d s
  | .cpIxd d => Sys2Proof.Machine.execCpIxd d s
  | .popIx => Sys2Proof.Machine.execPopIx s
  | .exIndSpIx => Sys2Proof.Machine.execExIndSpIx s
  | .pushIx => Sys2Proof.Machine.execPushIx s
  | .jpIndIx => Sys2Proof.Machine.execJpIndIx s
  | .ldSpIx => Sys2Proof.Machine.execLdSpIx s
  | .rlcIxd d => Sys2Proof.Machine.execRlcIxd d s
  | .rrcIxd d => Sys2Proof.Machine.execRrcIxd d s
  | .rlIxd d => Sys2Proof.Machine.execRlIxd d s
  | .rrIxd d => Sys2Proof.Machine.execRrIxd d s
  | .slaIxd d => Sys2Proof.Machine.execSlaIxd d s
  | .sraIxd d => Sys2Proof.Machine.execSraIxd d s
  | .sllIxd d => Sys2Proof.Machine.execSllIxd d s
  | .srlIxd d => Sys2Proof.Machine.execSrlIxd d s
  | .bitBIxd b d => Sys2Proof.Machine.execBitBIxd b d s
  | .resBIxd b d => Sys2Proof.Machine.execResBIxd b d s
  | .setBIxd b d => Sys2Proof.Machine.execSetBIxd b d s
  | .addIyRr rr => Sys2Proof.Machine.execAddIyRr rr s
  | .ldIyNn nn => Sys2Proof.Machine.execLdIyNn nn s
  | .ldIndNnIy nn => Sys2Proof.Machine.execLdIndNnIy nn s
  | .incIy => Sys2Proof.Machine.execIncIy s
  | .ldIyIndNn nn => Sys2Proof.Machine.execLdIyIndNn nn s
  | .decIy => Sys2Proof.Machine.execDecIy s
  | .incIyd d => Sys2Proof.Machine.execIncIyd d s
  | .decIyd d => Sys2Proof.Machine.execDecIyd d s
  | .ldIydN d n => Sys2Proof.Machine.execLdIydN d n s
  | .ldRIyd r d => Sys2Proof.Machine.execLdRIyd r d s
  | .ldIydR d r => Sys2Proof.Machine.execLdIydR d r s
  | .addAIyd d => Sys2Proof.Machine.execAddAIyd d s
  | .adcAIyd d => Sys2Proof.Machine.execAdcAIyd d s
  | .subIyd d => Sys2Proof.Machine.execSubIyd d s
  | .sbcAIyd d => Sys2Proof.Machine.execSbcAIyd d s
  | .andIyd d => Sys2Proof.Machine.execAndIyd d s
  | .xorIyd d => Sys2Proof.Machine.execXorIyd d s
  | .orIyd d => Sys2Proof.Machine.execOrIyd d s
  | .cpIyd d => Sys2Proof.Machine.execCpIyd d s
  | .popIy => Sys2Proof.Machine.execPopIy s
  | .exIndSpIy => Sys2Proof.Machine.execExIndSpIy s
  | .pushIy => Sys2Proof.Machine.execPushIy s
  | .jpIndIy => Sys2Proof.Machine.execJpIndIy s
  | .ldSpIy => Sys2Proof.Machine.execLdSpIy s
  | .rlcIyd d => Sys2Proof.Machine.execRlcIyd d s
  | .rrcIyd d => Sys2Proof.Machine.execRrcIyd d s
  | .rlIyd d => Sys2Proof.Machine.execRlIyd d s
  | .rrIyd d => Sys2Proof.Machine.execRrIyd d s
  | .slaIyd d => Sys2Proof.Machine.execSlaIyd d s
  | .sraIyd d => Sys2Proof.Machine.execSraIyd d s
  | .sllIyd d => Sys2Proof.Machine.execSllIyd d s
  | .srlIyd d => Sys2Proof.Machine.execSrlIyd d s
  | .bitBIyd b d => Sys2Proof.Machine.execBitBIyd b d s
  | .resBIyd b d => Sys2Proof.Machine.execResBIyd b d s
  | .setBIyd b d => Sys2Proof.Machine.execSetBIyd b d s
  | .unknownHalfIndexDd op => Sys2Proof.Machine.execUnknownHalfIndexDd op s
  | .discardedPrefixDd op => Sys2Proof.Machine.execDiscardedPrefixDd op s
  | .unknownDdcb d op => Sys2Proof.Machine.execUnknownDdcb d op s
  | .unknownHalfIndexFd op => Sys2Proof.Machine.execUnknownHalfIndexFd op s
  | .discardedPrefixFd op => Sys2Proof.Machine.execDiscardedPrefixFd op s
  | .unknownFdcb d op => Sys2Proof.Machine.execUnknownFdcb d op s
  | .unknownEd op => Sys2Proof.Machine.execUnknownEd op s

end Sys2Proof.Machine
end

