-- ==== Sys2Proof/Machine/Raster.lean ====
section
/-! DEFINITION. The raster engine (61_vdp.md sections 3 and 4): counters, interrupts, one scanline, the sprite
and background compositor, and `Tick`. -/

namespace Sys2Proof.Machine

/-! ### Counters and interrupts (R498, R502, R503) -/

/-- `AdvanceV()`: one jump from 0xDB to 0xD5 a frame (R498). -/
def Vdp.advanceV (v : Vdp) : Vdp :=
  let next := v.vcount + 1
  if next = 0xDB#8 ∧ v.vjump = false then { v with vcount := 0xD5#8, vjump := true }
  else if next = 0x00#8 then { v with vcount := 0x00#8, vjump := false }
  else { v with vcount := next }

/-- `LineCounter()`: down by one; on underflow reloaded, and the interrupt raised if `VR[0]` bit 4 is set
(R502). -/
def Vdp.lineCounter (v : Vdp) : Vdp :=
  let n := v.linecnt - 1
  if n = 0xFF#8 then
    { v with linecnt := v.vr[10], irqPending := v.irqPending || (v.vr[0]).getLsbD 4 }
  else { v with linecnt := n }

/-- The frame interrupt, raised in the scanline that makes `vcount` 0xC1 (R503). -/
def Vdp.frameInterrupt (v : Vdp) : Vdp :=
  if v.vcount = 0xC1#8 then { v with status := v.status ||| 0x80#8, irqPending := true } else v

/-! ### Compositing (R504 to R508) -/

/-- `Colour(b)`: two bits a channel, each level times 85 (R508). -/
def colour (b : Byte) : Rgb :=
  { r := (b.extractLsb' 0 2).setWidth 8 * 85#8
    g := (b.extractLsb' 2 2).setWidth 8 * 85#8
    b := (b.extractLsb' 4 2).setWidth 8 * 85#8 }

/-- A VRAM byte at a numeric address (the addresses of the compositor stay below 16,384). -/
def Vdp.vramAt (v : Vdp) (a : Nat) : Byte := Vram.read v.vram (BitVec.ofNat 14 a)

/-- A CRAM byte at an index taken modulo 32. -/
def Vdp.cramAt (v : Vdp) (k : Nat) : Byte := v.cram.getD (k % 32) 0

/-- `TilePixel(t, r, p)`: the 4-bit colour index of pixel `p` of row `r` of pattern `t` (R507). -/
def Vdp.tilePixel (v : Vdp) (t r p : Nat) : Nat :=
  let a := t * 32 + r * 4
  bit ((v.vramAt a).getLsbD (7 - p)) + 2 * bit ((v.vramAt (a + 1)).getLsbD (7 - p)) +
    4 * bit ((v.vramAt (a + 2)).getLsbD (7 - p)) + 8 * bit ((v.vramAt (a + 3)).getLsbD (7 - p))

/-- The line being composed: 256 optional colours, `none` the SENTINEL (R504). -/
abbrev Line := List (Option Rgb)

/-- The line as `RenderLine` clears it (R504). -/
def Line.cleared : Line := List.replicate 256 none

/-- `satbase` (R482, R506). -/
def Vdp.satBase (v : Vdp) : Nat := ((v.vr[5]).toNat % 128 * 256) &&& 0x3F00

/-- Sprite height: 16 when `VR[1]` bit 1 is set, else 8 (R482, R506). -/
def Vdp.spriteSize (v : Vdp) : Nat := if (v.vr[1]).getLsbD 1 then 16 else 8

/-- One pixel of a sprite at screen column `x`: off-screen, left-masked and transparent pixels do nothing; a
pixel over a drawn one sets the collision bit and is not drawn (R506). -/
def Vdp.spritePixel (v : Vdp) (t row : Nat) (x : Int) (p : Nat) (ls : Line × Byte) : Line × Byte :=
  let col := x.toNat
  if x < 0 ∨ x > 255 then ls
  else if (v.vr[0]).getLsbD 5 = true ∧ x < 8 then ls
  else
    let c := v.tilePixel t row p
    if c = 0 then ls
    else if (ls.1.getD col none).isSome then (ls.1, ls.2 ||| 0x20#8)
    else (ls.1.set col (some (colour (v.cramAt (16 + c)))), ls.2)

/-- The eight pixels of sprite `i`, left to right, on the line `row` lines below its top (R506). -/
def Vdp.drawSprite (v : Vdp) (i row : Nat) (ls : Line × Byte) : Line × Byte :=
  let xbyte := v.vramAt (v.satBase + 0x80 + 2 * i)
  let x0 : Int := (xbyte.toNat : Int) - (if (v.vr[0]).getLsbD 3 then 8 else 0)
  let n := v.vramAt (v.satBase + 0x80 + 2 * i + 1)
  let n := if v.spriteSize = 16 then n &&& 0xFE#8 else n
  let t := n.toNat + (if (v.vr[6]).getLsbD 2 then 256 else 0)
  List.foldl (fun (acc : Line × Byte) (p : Nat) => v.spritePixel t row (x0 + (p : Int)) p acc) ls (List.range 8)

/-- The sprite table from entry `i`, `left` entries left, `count` sprites already found on line `y` (R506). -/
def Vdp.drawSpritesFrom (v : Vdp) (y : Nat) : Nat → Nat → Nat → Line × Byte → Line × Byte
  | 0, _, _, ls => ls
  | left + 1, i, count, ls =>
    let top := (v.vramAt (v.satBase + i)).toNat
    if top = 0xD0 then ls
    else if ¬(top + 1 ≤ y ∧ y ≤ top + v.spriteSize) then v.drawSpritesFrom y left (i + 1) count ls
    else if count + 1 > 8 then (ls.1, ls.2 ||| 0x40#8)
    else v.drawSpritesFrom y left (i + 1) (count + 1) (v.drawSprite i (y - top - 1) ls)

/-- `DrawSprites(y)` on a cleared line: the line and the status register after it (R506). -/
def Vdp.drawSprites (v : Vdp) (y : Nat) : Line × Byte :=
  v.drawSpritesFrom y 64 0 0 (Line.cleared, v.status)

/-- `ntbase` (R482, R505). -/
def Vdp.ntBase (v : Vdp) : Nat := ((v.vr[2]).toNat &&& 0x0E) * 1024

/-- The 16-bit name-table entry at `ea`, low byte first (R505). -/
def Vdp.nameEntry (v : Vdp) (ea : Nat) : Word := wordOfBytes (v.vramAt ea) (v.vramAt (ea + 1))

/-- Pixel `x` of line `y` after `DrawBackground`, where the sprite layer left `under` (R505). -/
def Vdp.backgroundPixel (v : Vdp) (y x : Nat) (under : Option Rgb) : Rgb :=
  if (v.vr[0]).getLsbD 5 = true ∧ x < 8 then Rgb.black
  else
    let vy := y + (v.vr[9]).toNat
    let trow := vy % 224 / 8
    let fine := vy % 8
    let u := v.screen.hScroll.column x v.vr[8]
    let w := v.nameEntry (v.ntBase + (trow * 32 + u / 8) * 2)
    let r := if w.getLsbD 10 then 7 - fine else fine
    let q := if w.getLsbD 9 then 7 - u % 8 else u % 8
    let c := v.tilePixel (w.extractLsb' 0 9).toNat r q
    let tile := colour (v.cramAt (c + 16 * bit (w.getLsbD 11)))
    match under with
    | some sprite => if w.getLsbD 12 = true ∧ c ≠ 0 then tile else sprite
    | none => tile

/-- `DrawBackground(y)`: the finished row (R505). -/
def Vdp.drawBackground (v : Vdp) (y : Nat) (line : Line) : List Rgb :=
  (List.range 256).map (fun x => v.backgroundPixel y x (line.getD x none))

/-- `RenderLine(y)`: sprites, then background, then the framebuffer row (R504). -/
def Vdp.renderLine (v : Vdp) (y : Nat) : Vdp :=
  let sprites := v.drawSprites y
  { v with status := sprites.2, fb := Fb.writeRow v.fb y (v.drawBackground y sprites.1) }

/-! ### Scanline and Tick (R497, R499) -/

/-- Is the display shown? It is blanked when `VR[1]` bit 6 is `BLANK_WHEN` (R500). -/
def Vdp.displayShown (v : Vdp) : Bool := (v.vr[1]).getLsbD 6 != v.screen.blankWhen

/-- `Scanline(should_render)` (R499): the clauses in the source's order, on the new `vcount`. -/
def Vdp.scanline (v : Vdp) (shouldRender : Bool) : Vdp :=
  let v1 := v.advanceV
  let v2 :=
    if v1.vcount.toNat < 192 then
      (if v1.displayShown && shouldRender then v1.renderLine v1.vcount.toNat else v1).lineCounter
    else { v1 with linecnt := v1.vr[10] }
  v2.frameInterrupt

/-- `n` scanlines, one after the other. -/
def Vdp.scanlines (shouldRender : Bool) : Nat → Vdp → Vdp
  | 0, v => v
  | n + 1, v => Vdp.scanlines shouldRender n (v.scanline shouldRender)

/-- `Tick(cycles, should_render)`: `hcount` accumulates; one `Scanline` for each 342 cycles taken off it (R497,
D33). -/
def Vdp.tick (v : Vdp) (cycles : Nat) (shouldRender : Bool) : Vdp :=
  let h := v.hcount.toNat + cycles
  { (Vdp.scanlines shouldRender (h / 342) v) with hcount := BitVec.ofNat 9 (h % 342) }

end Sys2Proof.Machine
end

