-- ==== Sys2Proof/Machine/Driver.lean ====
section
/-! DEFINITION. One turn of the driver loop (R465 to R467 60_exceptions.md): the host's input, the feeding of the
interrupt line, one `Step()`, and one scaled `Tick`; and the placing of bytes at PC for the host's view of the
fetch. -/

namespace Sys2Proof.Machine

/-- `Step()` (R441), with the meanings of Dispatch.lean. -/
def cpuStep (s : State) : Out := cpuStepWith exec s

/-- `Reset()` by the host, with the image it loads (R466, R540): every CPU and VDP element at the value that the
machine's `ResetState` gives it, by default with no fault held, `acc` 0, and the parameters as they were. DESIGN
CHOICE, unsafe: that every byte outside the image reads as an unwritten one afterwards, also one stored before the
reset, is the model's, for R466 and R540 do not say what a reset during a run leaves of it: log entry 18. Log entries
2 and 21 say the rest. -/
def State.hostReset (s : State) (image : List Host.Cell) : State :=
  State.resetWith s.params s.vdp.screen s.resetState (s.mem.load image) s.inputs s.draws

/-- What the host does before one step, in the order reset, `TStates` cleared, `irq_pending` cleared,
`nmi_pending` set (R466). Log entry 2. -/
def State.applyInput (s : State) (input : HostInput) : State :=
  let s := match input.reset with
    | some image => s.hostReset image
    | none => s
  let s := if input.clearTStates then { s with tStates := 0 } else s
  let s := if input.clearIrq then { s with vdp := { s.vdp with irqPending := false } } else s
  if input.nmi then { s with nmiPending := true } else s

/-- The host does nothing, and renders. Log entry 2. -/
def HostInput.idle : HostInput :=
  { reset := none, clearTStates := false, clearIrq := false, nmi := false, shouldRender := true }

/-- The input of this turn: the next one of the list, or none. -/
def State.nextInput (s : State) : HostInput := s.inputs.headD HostInput.idle

/-- The state after the host's input of this turn. -/
def State.afterInput (s : State) : State := ({ s with inputs := s.inputs.tail }).applyInput s.nextInput

/-- The VDP's flag fed into the CPU's maskable input before every step (D20): by default the level copy
`int_pending <- VDP.irq_pending` (R467, R550), or the edge transfer, which clears the VDP's flag. Log entry 1. -/
def State.feedInterrupt (s : State) : State :=
  { s with
    intPending := s.params.feed.pending s.intPending s.vdp.irqPending
    vdp := { s.vdp with irqPending := s.params.feed.keeps s.vdp.irqPending } }

/-- What the driver does after a step that began at `before` T-states (R467): `TickScale` turns its T-states into VDP
cycles, whole cycles given to `Tick` and the rest carried in `acc`: by default three half cycles for each T-state, the
odd half carried. After a faulting step it stops: no tick (R452). -/
def State.driveVdp (before : Nat) (shouldRender : Bool) (t : State) : State :=
  match t.fault with
  | some _ => t
  | none =>
    let scaled := t.acc + t.params.tickNum * (t.tStates - before)
    { t with vdp := t.vdp.tick (scaled / t.params.tickDen) shouldRender, acc := scaled % t.params.tickDen }

/-- One turn of the driver of R467. A machine that holds a fault is stuck unless the host resets it (R452). -/
def driverTurn (s : State) : Out :=
  let s1 := s.afterInput
  match s1.fault with
  | some f => .fault f
  | none =>
    Out.mapNext (State.driveVdp s1.tStates s.nextInput.shouldRender) (cpuStep s1.feedInterrupt)

/-- The bytes of a list written from address `a` on. -/
def State.placeBytes (s : State) (a : Word) : List Byte → State
  | [] => s
  | v :: rest => (s.wr a v).placeBytes (a + 1) rest

end Sys2Proof.Machine
end

