-- ==== Sys2Proof/Machine/Step.lean ====
section
/-! DEFINITION. One step of the machine: one turn of the driver of R467. -/

namespace Sys2Proof.Machine

/-- One step: the host's input, one `Step()`, one `Tick`. Log entry 1. -/
def step (s : State) : Host.Outcome State Fault Refusal := driverTurn s

/-- `s` with the instruction of a table word at PC, the place of the next fetch. Log entries 16 and 17. -/
def State.withFetchWord (s : State) (nbits w : Nat) : State := s.placeBytes s.pc (tableWordBytes nbits w)

end Sys2Proof.Machine
end

