-- ==== Sys2Proof/Safety.lean ====
section
/-! DEFINITION. What a claim calls a safe state and a safe run, and the invariant that every step keeps. -/

namespace Sys2Proof.Machine

/-- A machine that holds no fault (R38). -/
def State.running (s : State) : Bool := s.fault.isNone

/-- `n` steps from `s` all answer a next state, and the last state holds no fault (R468). -/
def State.SafeFor (s : State) (n : Nat) : Prop :=
  ∃ t, Sys2Proof.core.run n s = .next t ∧ t.running = true

/-- The vertical counter and its jump flag agree: before the jump `vcount` is at most 0xDA, after it at least 0xD5
(R498). -/
def Vdp.countersOk (v : Vdp) : Bool :=
  decide (v.hcount.toNat < 342) &&
    (if v.vjump then decide (0xD5 ≤ v.vcount.toNat) else decide (v.vcount.toNat ≤ 0xDA))

/-- What the VDP's state keeps: VRAM and the framebuffer in canonical form, bits 4:0 of the status clear (R483), and
the counters inside a frame (R497, R498). -/
def Vdp.inv (v : Vdp) : Bool :=
  Vram.wf v.vram && Fb.wf v.fb && decide (v.status.extractLsb' 0 5 = 0#5) && v.countersOk

/-- What holds at reset and after every step: memory in canonical form, the VDP's state as `Vdp.inv` says, that of the
machine's `ResetState` too, and less than one VDP cycle carried: at most one half cycle at the default `TickScale`
(R467). -/
def State.inv (s : State) : Bool :=
  s.mem.wf && s.vdp.inv && s.resetState.vdp.inv && decide (s.acc < s.params.tickDen)

/-- The invariant as a proposition. -/
abbrev State.Inv (s : State) : Prop := s.inv = true

end Sys2Proof.Machine
end

