-- ==== Sys2Proof/Certificates/Slice0/Obligations.lean ====
section
/-! DEFINITION. The statements for the provers, from the numbered rules of spec/. First the shapes they share
(`Sys2Proof.Rules`): what an instruction of one shape changes and what it leaves, the flag rules in plain
arithmetic, and the tables of 70_reset_and_hazards.md and opcode_table.json. -/

namespace Sys2Proof.Rules

open Sys2Proof Sys2Proof.Machine

/-! ### Shapes: what changes, and that nothing else does

`s` is the state after the instruction's own reads of memory (`afterRd`, `afterRd16`), which with the default `Mem` is
the state before it; `n` is the instruction's cost. What a later read answers after a store is stated for the default
`Mem` (R62 assumes nothing of another); that the store is made, and when, is stated for every `Mem`. -/

/-- `MemRead(a, 2)`: the byte at `a` read first, then the one at `a + 1`, the second byte high (R11). -/
def wordAt (s : State) (a : Word) : Word := wordOfBytes (s.rd a) ((s.afterRd a).rd (a + 1))

/-- `t` is `s` with `v` in the register `r`, after `n` T-states; every other register, F and all other state is
unchanged. -/
def LoadsReg (s t : State) (r : Reg8) (v : Byte) (n : Nat) : Prop :=
  t.r8 r = v ∧ (∀ q, q ≠ r → t.r8 q = s.r8 q) ∧ t.main.f = s.main.f ∧
    t = { s with main := t.main, tStates := s.tStates + n }

/-- `t` is `s` with `v` in the pair `p`, after `n` T-states; the other pairs, A, F and all other state are
unchanged. -/
def LoadsPair (s t : State) (p : Pair) (v : Word) (n : Nat) : Prop :=
  t.pair p = v ∧ (∀ q, q ≠ p → t.pair q = s.pair q) ∧ t.main.a = s.main.a ∧ t.main.f = s.main.f ∧
    t = { s with main := t.main, sp := t.sp, tStates := s.tStates + n }

/-- Memory holds `v` at `a` and every other byte as before: with the default `Mem` (R62). -/
def HoldsByte (s t : State) (a : Word) (v : Byte) : Prop :=
  s.mem.isFlat = true → t.rd a = v ∧ ∀ x, x ≠ a → t.rd x = s.rd x

/-- Memory holds `lo` at `a` and `hi` at `b`, and every other byte as before: with the default `Mem` (R62). -/
def HoldsBytes (s t : State) (a b : Word) (lo hi : Byte) : Prop :=
  s.mem.isFlat = true → t.rd a = lo ∧ t.rd b = hi ∧ ∀ x, x ≠ a → x ≠ b → t.rd x = s.rd x

/-- `t` is `s` with the byte `v` stored at `a`, after `n` T-states; every other byte and all other state is
unchanged. -/
def StoresByte (s t : State) (a : Word) (v : Byte) (n : Nat) : Prop :=
  HoldsByte s t a v ∧ t = { s with mem := s.mem.write a v, tStates := s.tStates + n }

/-- `t` is `s` with the word `v` stored at `a`, low byte first (R63), after `n` T-states; every other byte and all
other state is unchanged. -/
def StoresWord (s t : State) (a v : Word) (n : Nat) : Prop :=
  HoldsBytes s t a (a + 1) (loByte v) (hiByte v) ∧
    t =
      { s with
        mem := (s.mem.write a (loByte v)).write (a + 1) (hiByte v)
        tStates := s.tStates + n }

/-- `t` is `s` in memory with `v` pushed: the high byte at SP-1, then the low byte at SP-2 (R13). -/
def PushedBytes (s t : State) (v : Word) : Prop :=
  HoldsBytes s t (s.sp - 2) (s.sp - 1) (loByte v) (hiByte v) ∧
    t.mem = (s.mem.write (s.sp - 1) (hiByte v)).write (s.sp - 2) (loByte v)

/-- `t` is `s` with `v` pushed and PC at `target`, after `n` T-states; all other state is unchanged. -/
def Pushes (s t : State) (v target : Word) (n : Nat) : Prop :=
  PushedBytes s t v ∧ t = { s with mem := t.mem, sp := s.sp - 2, pc := target, tStates := s.tStates + n }

/-- Only F (and the model's draw counter) may differ from `s`, after `n` T-states. -/
def OnlyF (s t : State) (n : Nat) : Prop :=
  t = { s with main := { s.main with f := t.main.f }, draws := t.draws, tStates := s.tStates + n }

/-- Only A and F (and the draw counter) may differ from `s`, after `n` T-states. -/
def OnlyAF (s t : State) (n : Nat) : Prop :=
  t = { s with main := { s.main with a := t.main.a, f := t.main.f }, draws := t.draws, tStates := s.tStates + n }

/-- `v` in the register `r`; only it and F (and the draw counter) may differ from `s`, after `n` T-states. -/
def OnlyRegF (s t : State) (r : Reg8) (v : Byte) (n : Nat) : Prop :=
  t.r8 r = v ∧ (∀ q, q ≠ r → t.r8 q = s.r8 q) ∧
    t = { s with main := t.main, draws := t.draws, tStates := s.tStates + n }

/-- `v` stored at the address `a`; only that byte and F (and the draw counter) may differ from `s`, after `n`
T-states. -/
def OnlyByteF (s t : State) (a : Word) (v : Byte) (n : Nat) : Prop :=
  HoldsByte s t a v ∧
    t =
      { s with
        mem := s.mem.write a v
        main := { s.main with f := t.main.f }
        draws := t.draws
        tStates := s.tStates + n }

/-- The five operand forms of an 8-bit operation on A: every form answers a next state that meets `P` with the
operand's value and the form's cost (R548). -/
def ForEachOperand (r : Reg8 → Instr) (n : Byte → Instr) (hl : Instr) (ix iy : Byte → Instr)
    (P : State → State → Byte → Nat → Prop) : Prop :=
  ∀ s : State,
    (∀ q, ∃ t, exec (r q) s = .next t ∧ P s t (s.r8 q) (s.cost (r q))) ∧
      (∀ v, ∃ t, exec (n v) s = .next t ∧ P s t v (s.cost (n v))) ∧
      (∃ t, exec hl s = .next t ∧ P (s.afterRd s.main.hl) t (s.rd s.main.hl) (s.cost hl)) ∧
      (∀ d, ∃ t, exec (ix d) s = .next t ∧ P (s.afterRd (s.ixd d)) t (s.rd (s.ixd d)) (s.cost (ix d))) ∧
      ∀ d, ∃ t, exec (iy d) s = .next t ∧ P (s.afterRd (s.iyd d)) t (s.rd (s.iyd d)) (s.cost (iy d))

/-! ### Flag rules in plain arithmetic -/

/-- A flag as the number 0 or 1 (R9). -/
def num (c : Bool) : Nat := if c then 1 else 0

/-- An even number of 1 bits (R9). -/
def evenParity (v : Byte) : Bool := decide (((List.range 8).countP fun k => v.getLsbD k) % 2 = 0)

/-- `sext8(d)` (R9). -/
def signed (d : Byte) : Int := if d.toNat < 128 then (d.toNat : Int) else (d.toNat : Int) - 256

/-- `trunc16(base + sext8(d))` (R9, R95). -/
def displaced (base : Word) (d : Byte) : Word := BitVec.ofInt 16 ((base.toNat : Int) + signed d)

/-- `add8(a, b, c)` gives the byte `r` and the flags `f` (R17). -/
def IsAdd8 (a b : Byte) (c : Bool) (r : Byte) (f : Flags) : Prop :=
  r.toNat = (a.toNat + b.toNat + num c) % 256 ∧ f.s = r.getLsbD 7 ∧ f.z = decide (r.toNat = 0) ∧
    f.h = decide (a.toNat % 16 + b.toNat % 16 + num c > 15) ∧
    f.p = (decide (a.getLsbD 7 = b.getLsbD 7) && decide (r.getLsbD 7 ≠ a.getLsbD 7)) ∧
    f.n = false ∧ f.c = decide (a.toNat + b.toNat + num c > 255)

/-- `sub8(a, b, c)` gives the byte `r` and the flags `f` (R17): H and C are borrows. -/
def IsSub8 (a b : Byte) (c : Bool) (r : Byte) (f : Flags) : Prop :=
  (r.toNat : Int) = ((a.toNat : Int) - b.toNat - num c) % 256 ∧ f.s = r.getLsbD 7 ∧
    f.z = decide (r.toNat = 0) ∧
    f.h = decide (((a.toNat % 16 : Nat) : Int) - ((b.toNat % 16 : Nat) : Int) - num c < 0) ∧
    f.p = (decide (a.getLsbD 7 ≠ b.getLsbD 7) && decide (r.getLsbD 7 ≠ a.getLsbD 7)) ∧
    f.n = true ∧ f.c = decide ((a.toNat : Int) - b.toNat - num c < 0)

/-- `logic8(r, h)` (R18). -/
def IsLogic8 (r : Byte) (h : Bool) (f : Flags) : Prop :=
  f.s = r.getLsbD 7 ∧ f.z = decide (r.toNat = 0) ∧ f.h = h ∧ f.p = evenParity r ∧ f.n = false ∧ f.c = false

/-- `inc8(v)` gives `r` and the flags `f`, from the flags `f0` (R250). -/
def IsInc8 (v r : Byte) (f0 f : Flags) : Prop :=
  r.toNat = (v.toNat + 1) % 256 ∧ f.s = r.getLsbD 7 ∧ f.z = decide (r.toNat = 0) ∧
    f.h = decide (v.toNat % 16 = 15) ∧ f.p = decide (v.toNat = 0x7F) ∧ f.n = false ∧ f.c = f0.c

/-- `dec8(v)` gives `r` and the flags `f`, from the flags `f0` (R250). -/
def IsDec8 (v r : Byte) (f0 f : Flags) : Prop :=
  (r.toNat : Int) = ((v.toNat : Int) - 1) % 256 ∧ f.s = r.getLsbD 7 ∧ f.z = decide (r.toNat = 0) ∧
    f.h = decide (v.toNat % 16 = 0) ∧ f.p = decide (v.toNat = 0x80) ∧ f.n = true ∧ f.c = f0.c

/-- The flags of a 16-bit add: H from bit 11, N, C; S, Z and P/V stay (R300). -/
def IsAdd16 (a b r : Word) (f0 f : Flags) : Prop :=
  r.toNat = (a.toNat + b.toNat) % 65536 ∧ f.h = decide (a.toNat % 4096 + b.toNat % 4096 > 0xFFF) ∧
    f.n = false ∧ f.c = decide (a.toNat + b.toNat > 0xFFFF) ∧ f.s = f0.s ∧ f.z = f0.z ∧ f.p = f0.p

/-- ADC HL (R301). -/
def IsAdc16 (a b : Word) (c : Bool) (r : Word) (f : Flags) : Prop :=
  r.toNat = (a.toNat + b.toNat + num c) % 65536 ∧ f.s = r.getLsbD 15 ∧ f.z = decide (r.toNat = 0) ∧
    f.h = decide (a.toNat % 4096 + b.toNat % 4096 + num c > 0xFFF) ∧
    f.p = (decide (a.getLsbD 15 = b.getLsbD 15) && decide (r.getLsbD 15 ≠ a.getLsbD 15)) ∧
    f.n = false ∧ f.c = decide (a.toNat + b.toNat + num c > 0xFFFF)

/-- SBC HL (R302). -/
def IsSbc16 (a b : Word) (c : Bool) (r : Word) (f : Flags) : Prop :=
  (r.toNat : Int) = ((a.toNat : Int) - b.toNat - num c) % 65536 ∧ f.s = r.getLsbD 15 ∧
    f.z = decide (r.toNat = 0) ∧
    f.h = decide (((a.toNat % 4096 : Nat) : Int) - ((b.toNat % 4096 : Nat) : Int) - num c < 0) ∧
    f.p = (decide (a.getLsbD 15 ≠ b.getLsbD 15) && decide (r.getLsbD 15 ≠ a.getLsbD 15)) ∧
    f.n = true ∧ f.c = decide ((a.toNat : Int) - b.toNat - num c < 0)

/-- The table of `rot8(k, v)` with the old carry `c`: the result as a number, and the bit moved out (R358). -/
def rotResult (k : RotOp) (v : Nat) (c : Bool) : Nat × Bool :=
  match k with
  | .rlc => (2 * v % 256 + v / 128, decide (v ≥ 128))
  | .rrc => (v / 2 + 128 * (v % 2), decide (v % 2 = 1))
  | .rl => (2 * v % 256 + num c, decide (v ≥ 128))
  | .rr => (v / 2 + 128 * num c, decide (v % 2 = 1))
  | .sla => (2 * v % 256, decide (v ≥ 128))
  | .sra => (v / 2 + 128 * (v / 128), decide (v % 2 = 1))
  | .sll => (2 * v % 256 + 1, decide (v ≥ 128))
  | .srl => (v / 2, decide (v % 2 = 1))

/-- `rot8(k, v)` from the flags `f0` gives `r` and the flags `f` (R358): S, Z, parity, H = N = 0, C the bit moved
out. -/
def IsRot8 (k : RotOp) (v r : Byte) (f0 f : Flags) : Prop :=
  r.toNat = (rotResult k v.toNat f0.c).1 ∧ f.s = r.getLsbD 7 ∧ f.z = decide (r.toNat = 0) ∧
    f.p = evenParity r ∧ f.h = false ∧ f.n = false ∧ f.c = (rotResult k v.toNat f0.c).2

/-- A two-digit BCD byte, and its value. -/
def IsBcd (v : Byte) : Prop := v.toNat % 16 ≤ 9 ∧ v.toNat / 16 ≤ 9

/-- The value of a BCD byte. -/
def bcdValue (v : Byte) : Nat := 10 * (v.toNat / 16) + v.toNat % 16

/-! ### Ports (R66, R489) -/

/-- What a read of port `lo` gives and does: `ReadData` at the VDP's data port, `ReadControl` at its control port
(R485, R488), a free value at another port registered for reading; `none` on every other port. -/
def portIn (s : State) (lo : Byte) : Option (Byte × State) :=
  if lo = s.params.dataPort then
    some
      (s.vdp.readbuf,
        { s with
          vdp :=
            { s.vdp with readbuf := Vram.read s.vdp.vram s.vdp.addr, addr := s.vdp.addr + 1, latch := false } })
  else if lo = s.params.ctrlPort then
    some (s.vdp.status, { s with vdp := { s.vdp with status := 0, irqPending := false, latch := false } })
  else if lo ∈ s.params.readPorts then some (Config.deviceByte lo s.draws, { s with draws := s.draws + 1 })
  else none

/-- What a write of `b` to port `lo` does: `WriteData` at the VDP's data port, `WriteControl` at its control port,
nothing inside the CORE at another port registered for writing; `none` on every other port. -/
def portOut (s : State) (lo b : Byte) : Option State :=
  if lo = s.params.dataPort then some { s with vdp := s.vdp.writeData b }
  else if lo = s.params.ctrlPort then some { s with vdp := s.vdp.writeControl b }
  else if lo ∈ s.params.writePorts then some s
  else none

/-! ### Tables -/

/-- The row of opcode_table.json that each constructor stands for: `match`, `mask` (over the key) and `length` in
bytes (R109). -/
def tableRow : Instr → Nat × Nat × Nat
  | .nop => (0x00, 0xFF, 1)
  | .exAfAf => (0x08, 0xFF, 1)
  | .djnzE _ => (0x10, 0xFF, 2)
  | .jrE _ => (0x18, 0xFF, 2)
  | .jrNzE _ => (0x20, 0xFF, 2)
  | .jrZE _ => (0x28, 0xFF, 2)
  | .jrNcE _ => (0x30, 0xFF, 2)
  | .jrCE _ => (0x38, 0xFF, 2)
  | .ldDdNn _ _ => (0x01, 0xCF, 3)
  | .addHlSs _ => (0x09, 0xCF, 1)
  | .ldIndBcA => (0x02, 0xFF, 1)
  | .ldAIndBc => (0x0A, 0xFF, 1)
  | .ldIndDeA => (0x12, 0xFF, 1)
  | .ldAIndDe => (0x1A, 0xFF, 1)
  | .ldIndNnHl _ => (0x22, 0xFF, 3)
  | .ldHlIndNn _ => (0x2A, 0xFF, 3)
  | .ldIndNnA _ => (0x32, 0xFF, 3)
  | .ldAIndNn _ => (0x3A, 0xFF, 3)
  | .incSs _ => (0x03, 0xCF, 1)
  | .decSs _ => (0x0B, 0xCF, 1)
  | .incR _ => (0x04, 0xC7, 1)
  | .incIndHl => (0x34, 0xFF, 1)
  | .decR _ => (0x05, 0xC7, 1)
  | .decIndHl => (0x35, 0xFF, 1)
  | .ldRN _ _ => (0x06, 0xC7, 2)
  | .ldIndHlN _ => (0x36, 0xFF, 2)
  | .rlca => (0x07, 0xFF, 1)
  | .rrca => (0x0F, 0xFF, 1)
  | .rla => (0x17, 0xFF, 1)
  | .rra => (0x1F, 0xFF, 1)
  | .daa => (0x27, 0xFF, 1)
  | .cpl => (0x2F, 0xFF, 1)
  | .scf => (0x37, 0xFF, 1)
  | .ccf => (0x3F, 0xFF, 1)
  | .ldRR _ _ => (0x40, 0xC0, 1)
  | .ldRIndHl _ => (0x46, 0xC7, 1)
  | .ldIndHlR _ => (0x70, 0xF8, 1)
  | .halt => (0x76, 0xFF, 1)
  | .addAR _ => (0x80, 0xF8, 1)
  | .addAN _ => (0xC6, 0xFF, 2)
  | .addAIndHl => (0x86, 0xFF, 1)
  | .adcAR _ => (0x88, 0xF8, 1)
  | .adcAN _ => (0xCE, 0xFF, 2)
  | .adcAIndHl => (0x8E, 0xFF, 1)
  | .subR _ => (0x90, 0xF8, 1)
  | .subN _ => (0xD6, 0xFF, 2)
  | .subIndHl => (0x96, 0xFF, 1)
  | .sbcAR _ => (0x98, 0xF8, 1)
  | .sbcAN _ => (0xDE, 0xFF, 2)
  | .sbcAIndHl => (0x9E, 0xFF, 1)
  | .andR _ => (0xA0, 0xF8, 1)
  | .andN _ => (0xE6, 0xFF, 2)
  | .andIndHl => (0xA6, 0xFF, 1)
  | .xorR _ => (0xA8, 0xF8, 1)
  | .xorN _ => (0xEE, 0xFF, 2)
  | .xorIndHl => (0xAE, 0xFF, 1)
  | .orR _ => (0xB0, 0xF8, 1)
  | .orN _ => (0xF6, 0xFF, 2)
  | .orIndHl => (0xB6, 0xFF, 1)
  | .cpR _ => (0xB8, 0xF8, 1)
  | .cpN _ => (0xFE, 0xFF, 2)
  | .cpIndHl => (0xBE, 0xFF, 1)
  | .retCc _ => (0xC0, 0xC7, 1)
  | .popQq _ => (0xC1, 0xCF, 1)
  | .ret => (0xC9, 0xFF, 1)
  | .exx => (0xD9, 0xFF, 1)
  | .jpIndHl => (0xE9, 0xFF, 1)
  | .ldSpHl => (0xF9, 0xFF, 1)
  | .jpCcNn _ _ => (0xC2, 0xC7, 3)
  | .jpNn _ => (0xC3, 0xFF, 3)
  | .outPortNA _ => (0xD3, 0xFF, 2)
  | .inAPortN _ => (0xDB, 0xFF, 2)
  | .exIndSpHl => (0xE3, 0xFF, 1)
  | .exDeHl => (0xEB, 0xFF, 1)
  | .di => (0xF3, 0xFF, 1)
  | .ei => (0xFB, 0xFF, 1)
  | .callCcNn _ _ => (0xC4, 0xC7, 3)
  | .pushQq _ => (0xC5, 0xCF, 1)
  | .callNn _ => (0xCD, 0xFF, 3)
  | .rstP _ => (0xC7, 0xC7, 1)
  | .rlcR _ => (0xCB00, 0xFFF8, 2)
  | .rlcIndHl => (0xCB06, 0xFFFF, 2)
  | .rrcR _ => (0xCB08, 0xFFF8, 2)
  | .rrcIndHl => (0xCB0E, 0xFFFF, 2)
  | .rlR _ => (0xCB10, 0xFFF8, 2)
  | .rlIndHl => (0xCB16, 0xFFFF, 2)
  | .rrR _ => (0xCB18, 0xFFF8, 2)
  | .rrIndHl => (0xCB1E, 0xFFFF, 2)
  | .slaR _ => (0xCB20, 0xFFF8, 2)
  | .slaIndHl => (0xCB26, 0xFFFF, 2)
  | .sraR _ => (0xCB28, 0xFFF8, 2)
  | .sraIndHl => (0xCB2E, 0xFFFF, 2)
  | .sllR _ => (0xCB30, 0xFFF8, 2)
  | .sllIndHl => (0xCB36, 0xFFFF, 2)
  | .srlR _ => (0xCB38, 0xFFF8, 2)
  | .srlIndHl => (0xCB3E, 0xFFFF, 2)
  | .bitBR _ _ => (0xCB40, 0xFFC0, 2)
  | .bitBIndHl _ => (0xCB46, 0xFFC7, 2)
  | .resBR _ _ => (0xCB80, 0xFFC0, 2)
  | .resBIndHl _ => (0xCB86, 0xFFC7, 2)
  | .setBR _ _ => (0xCBC0, 0xFFC0, 2)
  | .setBIndHl _ => (0xCBC6, 0xFFC7, 2)
  | .inRPortC _ => (0xED40, 0xFFC7, 2)
  | .outPortCR _ => (0xED41, 0xFFC7, 2)
  | .sbcHlSs _ => (0xED42, 0xFFCF, 2)
  | .adcHlSs _ => (0xED4A, 0xFFCF, 2)
  | .ldIndNnDd _ _ => (0xED43, 0xFFCF, 4)
  | .ldDdIndNn _ _ => (0xED4B, 0xFFCF, 4)
  | .neg => (0xED44, 0xFFFF, 2)
  | .retn => (0xED45, 0xFFFF, 2)
  | .reti => (0xED4D, 0xFFFF, 2)
  | .im0 => (0xED46, 0xFFFF, 2)
  | .im1 => (0xED56, 0xFFFF, 2)
  | .im2 => (0xED5E, 0xFFFF, 2)
  | .ldIA => (0xED47, 0xFFFF, 2)
  | .ldRA => (0xED4F, 0xFFFF, 2)
  | .ldAI => (0xED57, 0xFFFF, 2)
  | .ldAR => (0xED5F, 0xFFFF, 2)
  | .rrd => (0xED67, 0xFFFF, 2)
  | .rld => (0xED6F, 0xFFFF, 2)
  | .ldi => (0xEDA0, 0xFFFF, 2)
  | .cpi => (0xEDA1, 0xFFFF, 2)
  | .ini => (0xEDA2, 0xFFFF, 2)
  | .outi => (0xEDA3, 0xFFFF, 2)
  | .ldd => (0xEDA8, 0xFFFF, 2)
  | .cpd => (0xEDA9, 0xFFFF, 2)
  | .ind => (0xEDAA, 0xFFFF, 2)
  | .outd => (0xEDAB, 0xFFFF, 2)
  | .ldir => (0xEDB0, 0xFFFF, 2)
  | .cpir => (0xEDB1, 0xFFFF, 2)
  | .inir => (0xEDB2, 0xFFFF, 2)
  | .otir => (0xEDB3, 0xFFFF, 2)
  | .lddr => (0xEDB8, 0xFFFF, 2)
  | .cpdr => (0xEDB9, 0xFFFF, 2)
  | .indr => (0xEDBA, 0xFFFF, 2)
  | .otdr => (0xEDBB, 0xFFFF, 2)
  | .addIxPp _ => (0xDD09, 0xFFCF, 2)
  | .ldIxNn _ => (0xDD21, 0xFFFF, 4)
  | .ldIndNnIx _ => (0xDD22, 0xFFFF, 4)
  | .incIx => (0xDD23, 0xFFFF, 2)
  | .ldIxIndNn _ => (0xDD2A, 0xFFFF, 4)
  | .decIx => (0xDD2B, 0xFFFF, 2)
  | .incIxd _ => (0xDD34, 0xFFFF, 3)
  | .decIxd _ => (0xDD35, 0xFFFF, 3)
  | .ldIxdN _ _ => (0xDD36, 0xFFFF, 4)
  | .ldRIxd _ _ => (0xDD46, 0xFFC7, 3)
  | .ldIxdR _ _ => (0xDD70, 0xFFF8, 3)
  | .addAIxd _ => (0xDD86, 0xFFFF, 3)
  | .adcAIxd _ => (0xDD8E, 0xFFFF, 3)
  | .subIxd _ => (0xDD96, 0xFFFF, 3)
  | .sbcAIxd _ => (0xDD9E, 0xFFFF, 3)
  | .andIxd _ => (0xDDA6, 0xFFFF, 3)
  | .xorIxd _ => (0xDDAE, 0xFFFF, 3)
  | .orIxd _ => (0xDDB6, 0xFFFF, 3)
  | .cpIxd _ => (0xDDBE, 0xFFFF, 3)
  | .popIx => (0xDDE1, 0xFFFF, 2)
  | .exIndSpIx => (0xDDE3, 0xFFFF, 2)
  | .pushIx => (0xDDE5, 0xFFFF, 2)
  | .jpIndIx => (0xDDE9, 0xFFFF, 2)
  | .ldSpIx => (0xDDF9, 0xFFFF, 2)
  | .rlcIxd _ => (0xDDCB0006, 0xFFFF00FF, 4)
  | .rrcIxd _ => (0xDDCB000E, 0xFFFF00FF, 4)
  | .rlIxd _ => (0xDDCB0016, 0xFFFF00FF, 4)
  | .rrIxd _ => (0xDDCB001E, 0xFFFF00FF, 4)
  | .slaIxd _ => (0xDDCB0026, 0xFFFF00FF, 4)
  | .sraIxd _ => (0xDDCB002E, 0xFFFF00FF, 4)
  | .sllIxd _ => (0xDDCB0036, 0xFFFF00FF, 4)
  | .srlIxd _ => (0xDDCB003E, 0xFFFF00FF, 4)
  | .bitBIxd _ _ => (0xDDCB0046, 0xFFFF00C7, 4)
  | .resBIxd _ _ => (0xDDCB0086, 0xFFFF00C7, 4)
  | .setBIxd _ _ => (0xDDCB00C6, 0xFFFF00C7, 4)
  | .addIyRr _ => (0xFD09, 0xFFCF, 2)
  | .ldIyNn _ => (0xFD21, 0xFFFF, 4)
  | .ldIndNnIy _ => (0xFD22, 0xFFFF, 4)
  | .incIy => (0xFD23, 0xFFFF, 2)
  | .ldIyIndNn _ => (0xFD2A, 0xFFFF, 4)
  | .decIy => (0xFD2B, 0xFFFF, 2)
  | .incIyd _ => (0xFD34, 0xFFFF, 3)
  | .decIyd _ => (0xFD35, 0xFFFF, 3)
  | .ldIydN _ _ => (0xFD36, 0xFFFF, 4)
  | .ldRIyd _ _ => (0xFD46, 0xFFC7, 3)
  | .ldIydR _ _ => (0xFD70, 0xFFF8, 3)
  | .addAIyd _ => (0xFD86, 0xFFFF, 3)
  | .adcAIyd _ => (0xFD8E, 0xFFFF, 3)
  | .subIyd _ => (0xFD96, 0xFFFF, 3)
  | .sbcAIyd _ => (0xFD9E, 0xFFFF, 3)
  | .andIyd _ => (0xFDA6, 0xFFFF, 3)
  | .xorIyd _ => (0xFDAE, 0xFFFF, 3)
  | .orIyd _ => (0xFDB6, 0xFFFF, 3)
  | .cpIyd _ => (0xFDBE, 0xFFFF, 3)
  | .popIy => (0xFDE1, 0xFFFF, 2)
  | .exIndSpIy => (0xFDE3, 0xFFFF, 2)
  | .pushIy => (0xFDE5, 0xFFFF, 2)
  | .jpIndIy => (0xFDE9, 0xFFFF, 2)
  | .ldSpIy => (0xFDF9, 0xFFFF, 2)
  | .rlcIyd _ => (0xFDCB0006, 0xFFFF00FF, 4)
  | .rrcIyd _ => (0xFDCB000E, 0xFFFF00FF, 4)
  | .rlIyd _ => (0xFDCB0016, 0xFFFF00FF, 4)
  | .rrIyd _ => (0xFDCB001E, 0xFFFF00FF, 4)
  | .slaIyd _ => (0xFDCB0026, 0xFFFF00FF, 4)
  | .sraIyd _ => (0xFDCB002E, 0xFFFF00FF, 4)
  | .sllIyd _ => (0xFDCB0036, 0xFFFF00FF, 4)
  | .srlIyd _ => (0xFDCB003E, 0xFFFF00FF, 4)
  | .bitBIyd _ _ => (0xFDCB0046, 0xFFFF00C7, 4)
  | .resBIyd _ _ => (0xFDCB0086, 0xFFFF00C7, 4)
  | .setBIyd _ _ => (0xFDCB00C6, 0xFFFF00C7, 4)
  | .unknownHalfIndexDd _ => (0xDD00, 0xFF00, 2)
  | .discardedPrefixDd _ => (0xDD00, 0xFF00, 1)
  | .unknownDdcb _ _ => (0xDDCB0000, 0xFFFF0000, 4)
  | .unknownHalfIndexFd _ => (0xFD00, 0xFF00, 2)
  | .discardedPrefixFd _ => (0xFD00, 0xFF00, 1)
  | .unknownFdcb _ _ => (0xFDCB0000, 0xFFFF0000, 4)
  | .unknownEd _ => (0xED00, 0xFF00, 2)

/-- The key of an encoded instruction as the number R92 packs, by its format (R90): one byte; two after CB, ED, DD
or FD; four after DD CB and FD CB. -/
def keyNumber : List Byte → Nat
  | 0xDD#8 :: 0xCB#8 :: d :: op :: _ => 0xDDCB0000 + 256 * d.toNat + op.toNat
  | 0xFD#8 :: 0xCB#8 :: d :: op :: _ => 0xFDCB0000 + 256 * d.toNat + op.toNat
  | 0xCB#8 :: op :: _ => 0xCB00 + op.toNat
  | 0xED#8 :: op :: _ => 0xED00 + op.toNat
  | 0xDD#8 :: op :: _ => 0xDD00 + op.toNat
  | 0xFD#8 :: op :: _ => 0xFD00 + op.toNat
  | op :: _ => op.toNat
  | [] => 0

/-- The table of R548: what each instruction costs taken or repeating, and not taken or in its last iteration. EI's 4
come beside its nested step's cost. A discarded prefix and a faulting step cost 0. -/
def standardCost : Instr → Nat × Nat
  | .unknownHalfIndexDd _ | .discardedPrefixDd _ | .unknownDdcb _ _ | .unknownHalfIndexFd _ | .discardedPrefixFd _
    | .unknownFdcb _ _ | .unknownEd _ => (0, 0)
  | .nop | .exAfAf | .incR _ | .decR _ | .rlca | .rrca | .rla | .rra | .daa | .cpl | .scf | .ccf | .ldRR _ _ | .halt
    | .addAR _ | .adcAR _ | .subR _ | .sbcAR _ | .andR _ | .xorR _ | .orR _ | .cpR _ | .exx | .jpIndHl | .exDeHl
    | .di | .ei => (4, 4)
  | .incSs _ | .decSs _ | .ldSpHl => (6, 6)
  | .ldIndBcA | .ldAIndBc | .ldIndDeA | .ldAIndDe | .ldRN _ _ | .ldRIndHl _ | .ldIndHlR _ | .addAN _ | .addAIndHl
    | .adcAN _ | .adcAIndHl | .subN _ | .subIndHl | .sbcAN _ | .sbcAIndHl | .andN _ | .andIndHl | .xorN _
    | .xorIndHl | .orN _ | .orIndHl | .cpN _ | .cpIndHl => (7, 7)
  | .rlcR _ | .rrcR _ | .rlR _ | .rrR _ | .slaR _ | .sraR _ | .sllR _ | .srlR _ | .bitBR _ _ | .resBR _ _
    | .setBR _ _ | .neg | .im0 | .im1 | .im2 | .jpIndIx | .jpIndIy => (8, 8)
  | .ldIA | .ldRA | .ldAI | .ldAR => (9, 9)
  | .ldDdNn _ _ | .ldIndHlN _ | .popQq _ | .ret | .jpCcNn _ _ | .jpNn _ | .incIx | .decIx | .ldSpIx | .incIy
    | .decIy | .ldSpIy => (10, 10)
  | .addHlSs _ | .incIndHl | .decIndHl | .outPortNA _ | .inAPortN _ | .pushQq _ | .rstP _ => (11, 11)
  | .jrE _ | .bitBIndHl _ | .inRPortC _ | .outPortCR _ => (12, 12)
  | .ldIndNnA _ | .ldAIndNn _ => (13, 13)
  | .retn | .reti | .ldIxNn _ | .popIx | .ldIyNn _ | .popIy => (14, 14)
  | .rlcIndHl | .rrcIndHl | .rlIndHl | .rrIndHl | .slaIndHl | .sraIndHl | .sllIndHl | .srlIndHl | .resBIndHl _
    | .setBIndHl _ | .sbcHlSs _ | .adcHlSs _ | .addIxPp _ | .pushIx | .addIyRr _ | .pushIy => (15, 15)
  | .ldIndNnHl _ | .ldHlIndNn _ | .ldi | .cpi | .ini | .outi | .ldd | .cpd | .ind | .outd => (16, 16)
  | .callNn _ => (17, 17)
  | .rrd | .rld => (18, 18)
  | .exIndSpHl | .ldIxdN _ _ | .ldRIxd _ _ | .ldIxdR _ _ | .addAIxd _ | .adcAIxd _ | .subIxd _ | .sbcAIxd _
    | .andIxd _ | .xorIxd _ | .orIxd _ | .cpIxd _ | .ldIydN _ _ | .ldRIyd _ _ | .ldIydR _ _ | .addAIyd _
    | .adcAIyd _ | .subIyd _ | .sbcAIyd _ | .andIyd _ | .xorIyd _ | .orIyd _ | .cpIyd _ => (19, 19)
  | .ldIndNnDd _ _ | .ldDdIndNn _ _ | .ldIndNnIx _ | .ldIxIndNn _ | .bitBIxd _ _ | .ldIndNnIy _ | .ldIyIndNn _
    | .bitBIyd _ _ => (20, 20)
  | .incIxd _ | .decIxd _ | .exIndSpIx | .rlcIxd _ | .rrcIxd _ | .rlIxd _ | .rrIxd _ | .slaIxd _ | .sraIxd _
    | .sllIxd _ | .srlIxd _ | .resBIxd _ _ | .setBIxd _ _ | .incIyd _ | .decIyd _ | .exIndSpIy | .rlcIyd _
    | .rrcIyd _ | .rlIyd _ | .rrIyd _ | .slaIyd _ | .sraIyd _ | .sllIyd _ | .srlIyd _ | .resBIyd _ _
    | .setBIyd _ _ => (23, 23)
  | .djnzE _ => (13, 8)
  | .jrNzE _ | .jrZE _ | .jrNcE _ | .jrCE _ => (12, 7)
  | .retCc _ => (11, 5)
  | .callCcNn _ _ => (17, 10)
  | .ldir | .cpir | .inir | .otir | .lddr | .cpdr | .indr | .otdr => (21, 16)

/-- Does a conditional instruction take its branch, or a repeating one repeat (R400, R391, R196)? The condition is on
the state before the instruction. Every other instruction has one cost. -/
def takes (s : State) : Instr → Bool
  | .djnzE _ => decide (s.main.b ≠ 1)
  | .jrNzE _ => !s.main.f.z
  | .jrZE _ => s.main.f.z
  | .jrNcE _ => !s.main.f.c
  | .jrCE _ => s.main.f.c
  | .jpCcNn cc _ | .retCc cc | .callCcNn cc _ => s.main.f.cond cc
  | .ldir | .lddr => decide (s.main.bc ≠ 1)
  | .cpir | .cpdr => decide (s.main.bc ≠ 1 ∧ s.main.a ≠ s.rd s.main.hl)
  | .inir | .otir | .indr | .otdr => decide (s.main.b ≠ 1)
  | _ => true

/-- The T-states of an instruction that raises nothing, by the parameter `Cost`; a discarded prefix adds none (R97).
-/
def charge (s : State) : Instr → Nat
  | .discardedPrefixDd _ | .discardedPrefixFd _ => 0
  | i => if takes s i then s.cost i else s.costElse i

/-- The state outside memory, the VDP and `TStates` that an instruction can write, one name each. -/
inductive Place where
  | a
  | f
  | b
  | c
  | d
  | e
  | h
  | l
  | ix
  | iy
  | sp
  | pc
  | i
  | r
  | iff1
  | iff2
  | im
  | halted
  | nmiPending
  | intPending
  | shadow
  deriving DecidableEq, Repr

/-- `t` holds in a place what `s` holds there. -/
def Place.same (s t : State) : Place → Prop
  | .a => t.main.a = s.main.a
  | .f => t.main.f = s.main.f
  | .b => t.main.b = s.main.b
  | .c => t.main.c = s.main.c
  | .d => t.main.d = s.main.d
  | .e => t.main.e = s.main.e
  | .h => t.main.h = s.main.h
  | .l => t.main.l = s.main.l
  | .ix => t.ix = s.ix
  | .iy => t.iy = s.iy
  | .sp => t.sp = s.sp
  | .pc => t.pc = s.pc
  | .i => t.i = s.i
  | .r => t.r = s.r
  | .iff1 => t.iff1 = s.iff1
  | .iff2 => t.iff2 = s.iff2
  | .im => t.im = s.im
  | .halted => t.halted = s.halted
  | .nmiPending => t.nmiPending = s.nmiPending
  | .intPending => t.intPending = s.intPending
  | .shadow => t.shadow = s.shadow

/-- The place of an 8-bit register. -/
def ofReg : Reg8 → Place
  | .b => .b
  | .c => .c
  | .d => .d
  | .e => .e
  | .h => .h
  | .l => .l
  | .a => .a

/-- The places of a pair. -/
def ofPair : Pair → List Place
  | .bc => [.b, .c]
  | .de => [.d, .e]
  | .hl => [.h, .l]
  | .sp => [.sp]

/-- The places of a stack pair. -/
def ofStackPair : StackPair → List Place
  | .bc => [.b, .c]
  | .de => [.d, .e]
  | .hl => [.h, .l]
  | .af => [.a, .f]

/-- What each instruction's Operation and Flags lines write (rules R130 to R431, R97, R98), PC past the
instruction's own bytes. EI writes what its nested step writes and is left out of the statements that use this. -/
def writes : Instr → List Place
  | .nop | .ldIndBcA | .ldIndDeA | .ldIndNnHl _ | .ldIndNnA _ | .ldIndHlN _ | .ldIndHlR _ | .outPortNA _ | .ei
    | .resBIndHl _ | .setBIndHl _ | .outPortCR _ | .ldIndNnDd _ _ | .ldIndNnIx _ | .ldIxdN _ _ | .ldIxdR _ _
    | .resBIxd _ _ | .setBIxd _ _ | .ldIndNnIy _ | .ldIydN _ _ | .ldIydR _ _ | .resBIyd _ _ | .setBIyd _ _
    | .unknownHalfIndexDd _ | .unknownDdcb _ _ | .unknownHalfIndexFd _ | .unknownFdcb _ _ | .unknownEd _ => []
  | .exAfAf => [.a, .f, .shadow]
  | .djnzE _ => [.b, .pc]
  | .jrE _ | .jrNzE _ | .jrZE _ | .jrNcE _ | .jrCE _ | .jpIndHl | .jpCcNn _ _ | .jpNn _ | .jpIndIx | .jpIndIy
    | .discardedPrefixDd _ | .discardedPrefixFd _ => [.pc]
  | .ldDdNn dd _ | .ldDdIndNn dd _ => ofPair dd
  | .addHlSs _ | .sbcHlSs _ | .adcHlSs _ => [.h, .l, .f]
  | .ldAIndBc | .ldAIndDe | .ldAIndNn _ | .inAPortN _ => [.a]
  | .ldHlIndNn _ | .exIndSpHl => [.h, .l]
  | .incSs ss | .decSs ss => ofPair ss
  | .incR r | .decR r | .rlcR r | .rrcR r | .rlR r | .rrR r | .slaR r | .sraR r | .sllR r | .srlR r
    | .inRPortC r => [ofReg r, .f]
  | .incIndHl | .decIndHl | .scf | .ccf | .cpR _ | .cpN _ | .cpIndHl | .rlcIndHl | .rrcIndHl | .rlIndHl | .rrIndHl
    | .slaIndHl | .sraIndHl | .sllIndHl | .srlIndHl | .bitBR _ _ | .bitBIndHl _ | .incIxd _ | .decIxd _ | .cpIxd _
    | .rlcIxd _ | .rrcIxd _ | .rlIxd _ | .rrIxd _ | .slaIxd _ | .sraIxd _ | .sllIxd _ | .srlIxd _ | .bitBIxd _ _
    | .incIyd _ | .decIyd _ | .cpIyd _ | .rlcIyd _ | .rrcIyd _ | .rlIyd _ | .rrIyd _ | .slaIyd _ | .sraIyd _
    | .sllIyd _ | .srlIyd _ | .bitBIyd _ _ => [.f]
  | .ldRN r _ | .ldRR r _ | .ldRIndHl r | .resBR _ r | .setBR _ r | .ldRIxd r _ | .ldRIyd r _ => [ofReg r]
  | .rlca | .rrca | .rla | .rra | .daa | .cpl | .addAR _ | .addAN _ | .addAIndHl | .adcAR _ | .adcAN _ | .adcAIndHl
    | .subR _ | .subN _ | .subIndHl | .sbcAR _ | .sbcAN _ | .sbcAIndHl | .andR _ | .andN _ | .andIndHl | .xorR _
    | .xorN _ | .xorIndHl | .orR _ | .orN _ | .orIndHl | .neg | .ldAI | .ldAR | .rrd | .rld | .addAIxd _
    | .adcAIxd _ | .subIxd _ | .sbcAIxd _ | .andIxd _ | .xorIxd _ | .orIxd _ | .addAIyd _ | .adcAIyd _ | .subIyd _
    | .sbcAIyd _ | .andIyd _ | .xorIyd _ | .orIyd _ => [.a, .f]
  | .halt => [.halted]
  | .retCc _ | .ret | .callCcNn _ _ | .callNn _ | .rstP _ => [.sp, .pc]
  | .popQq qq => .sp :: ofStackPair qq
  | .exx => [.b, .c, .d, .e, .h, .l, .shadow]
  | .ldSpHl | .pushQq _ | .pushIx | .ldSpIx | .pushIy | .ldSpIy => [.sp]
  | .exDeHl => [.d, .e, .h, .l]
  | .di => [.iff1, .iff2]
  | .retn | .reti => [.sp, .pc, .iff1]
  | .im0 | .im1 | .im2 => [.im]
  | .ldIA => [.i]
  | .ldRA => [.r]
  | .ldi | .ldd => [.b, .c, .d, .e, .h, .l, .f]
  | .cpi | .cpd => [.b, .c, .h, .l, .f]
  | .ini | .outi | .ind | .outd => [.b, .h, .l, .f]
  | .ldir | .lddr => [.b, .c, .d, .e, .h, .l, .f, .pc]
  | .cpir | .cpdr => [.b, .c, .h, .l, .f, .pc]
  | .inir | .otir | .indr | .otdr => [.b, .h, .l, .f, .pc]
  | .addIxPp _ => [.ix, .f]
  | .ldIxNn _ | .incIx | .ldIxIndNn _ | .decIx | .exIndSpIx => [.ix]
  | .popIx => [.ix, .sp]
  | .addIyRr _ => [.iy, .f]
  | .ldIyNn _ | .incIy | .ldIyIndNn _ | .decIy | .exIndSpIy => [.iy]
  | .popIy => [.iy, .sp]

/-- The instructions that perform a port operation (R420 to R431): the port's low byte, the ports registered for the
operation beside the VDP's, and whether B is already counted down when the operation is made (R451). -/
def portOf (s : State) : Instr → Option (Byte × List Byte × Bool)
  | .inAPortN n => some (n, s.params.readPorts, false)
  | .inRPortC _ | .ini | .inir | .ind | .indr => some (s.main.c, s.params.readPorts, false)
  | .outPortNA n => some (n, s.params.writePorts, false)
  | .outPortCR _ => some (s.main.c, s.params.writePorts, false)
  | .outi | .otir | .outd | .otdr => some (s.main.c, s.params.writePorts, true)
  | _ => none

/-- Is `lo` one of the VDP's two ports (R66)? -/
def vdpPort (s : State) (lo : Byte) : Bool := lo == s.params.dataPort || lo == s.params.ctrlPort

/-- Is a port registered: the VDP's, or one of `more` (R66)? -/
def registered (s : State) (lo : Byte) (more : List Byte) : Bool := vdpPort s lo || more.contains lo

/-- The addresses an instruction reads, in order (R11, R76): after its own bytes are fetched and before it stores. -/
def readsOf (s : State) : Instr → List Word
  | .ldAIndBc => [s.main.bc]
  | .ldAIndDe => [s.main.de]
  | .ldAIndNn nn => [nn]
  | .ldHlIndNn nn | .ldDdIndNn _ nn | .ldIxIndNn nn | .ldIyIndNn nn => [nn, nn + 1]
  | .popQq _ | .ret | .retn | .reti | .popIx | .popIy | .exIndSpHl | .exIndSpIx | .exIndSpIy => [s.sp, s.sp + 1]
  | .retCc cc => if s.main.f.cond cc then [s.sp, s.sp + 1] else []
  | .incIndHl | .decIndHl | .ldRIndHl _ | .addAIndHl | .adcAIndHl | .subIndHl | .sbcAIndHl | .andIndHl | .xorIndHl
    | .orIndHl | .cpIndHl | .rlcIndHl | .rrcIndHl | .rlIndHl | .rrIndHl | .slaIndHl | .sraIndHl | .sllIndHl
    | .srlIndHl | .bitBIndHl _ | .resBIndHl _ | .setBIndHl _ | .rrd | .rld | .ldi | .ldd | .ldir | .lddr | .cpi
    | .cpd | .cpir | .cpdr | .outi | .outd | .otir | .otdr => [s.main.hl]
  | .incIxd d | .decIxd d | .ldRIxd _ d | .addAIxd d | .adcAIxd d | .subIxd d | .sbcAIxd d | .andIxd d | .xorIxd d
    | .orIxd d | .cpIxd d | .rlcIxd d | .rrcIxd d | .rlIxd d | .rrIxd d | .slaIxd d | .sraIxd d | .sllIxd d
    | .srlIxd d | .bitBIxd _ d | .resBIxd _ d | .setBIxd _ d => [s.ixd d]
  | .incIyd d | .decIyd d | .ldRIyd _ d | .addAIyd d | .adcAIyd d | .subIyd d | .sbcAIyd d | .andIyd d | .xorIyd d
    | .orIyd d | .cpIyd d | .rlcIyd d | .rrcIyd d | .rlIyd d | .rrIyd d | .slaIyd d | .sraIyd d | .sllIyd d
    | .srlIyd d | .bitBIyd _ d | .resBIyd _ d | .setBIyd _ d => [s.iyd d]
  | _ => []

/-- The addresses an instruction stores to, in order, with the address expressions of its rule: an untaken call and an
input from an unregistered port store nothing. -/
def storesTo (s : State) : Instr → List Word
  | .ldIndBcA => [s.main.bc]
  | .ldIndDeA | .ldi | .ldd | .ldir | .lddr => [s.main.de]
  | .ldIndNnHl nn | .ldIndNnDd nn _ | .ldIndNnIx nn | .ldIndNnIy nn => [nn, nn + 1]
  | .ldIndNnA nn => [nn]
  | .incIndHl | .decIndHl | .ldIndHlN _ | .ldIndHlR _ | .rlcIndHl | .rrcIndHl | .rlIndHl | .rrIndHl | .slaIndHl
    | .sraIndHl | .sllIndHl | .srlIndHl | .resBIndHl _ | .setBIndHl _ | .rrd | .rld => [s.main.hl]
  | .ini | .ind | .inir | .indr => if registered s s.main.c s.params.readPorts then [s.main.hl] else []
  | .exIndSpHl | .exIndSpIx | .exIndSpIy => [s.sp + 1, s.sp]
  | .pushQq _ | .callNn _ | .rstP _ | .pushIx | .pushIy => [s.sp - 1, s.sp - 2]
  | .callCcNn cc _ => if s.main.f.cond cc then [s.sp - 1, s.sp - 2] else []
  | .incIxd d | .decIxd d | .ldIxdN d _ | .ldIxdR d _ | .rlcIxd d | .rrcIxd d | .rlIxd d | .rrIxd d | .slaIxd d
    | .sraIxd d | .sllIxd d | .srlIxd d | .resBIxd _ d | .setBIxd _ d => [s.ixd d]
  | .incIyd d | .decIyd d | .ldIydN d _ | .ldIydR d _ | .rlcIyd d | .rrcIyd d | .rlIyd d | .rrIyd d | .slaIyd d
    | .sraIyd d | .sllIyd d | .srlIyd d | .resBIyd _ d | .setBIyd _ d => [s.iyd d]
  | _ => []

/-- The memory after a list of reads, in order: with the default `Mem` the memory before it (R65). -/
def readAll (m : Mem) (addresses : List Word) : Mem := addresses.foldl Mem.afterRead m

/-- The memory after a list of stores, in order. -/
def storeAll (m : Mem) (stores : List (Word × Byte)) : Mem := stores.foldl (fun m w => m.write w.1 w.2) m

/-- The fault an instruction raises (R450, R451): the key of an unknown row, or the unregistered port. -/
def faultOf (s : State) : Instr → Option Fault
  | .unknownHalfIndexDd op => some (.unknownOpcode (.dd op))
  | .unknownHalfIndexFd op => some (.unknownOpcode (.fd op))
  | .unknownDdcb d op => some (.unknownOpcode (.ddcb d op))
  | .unknownFdcb d op => some (.unknownOpcode (.fdcb d op))
  | .unknownEd op => some (.unknownOpcode (.ed op))
  | i =>
    match portOf s i with
    | some (lo, more, _) => if registered s lo more then none else some (.invalidPort lo)
    | none => none

end Sys2Proof.Rules
open Sys2Proof Sys2Proof.Machine Sys2Proof.Rules

/-! ## Encoding (30_encoding.md) -/

/-- Words written out from the spec's encodings, one or more of every format and family, decode to the
instructions they stand for (R93 to R103). -/
def Obligations.WordsOfTheSpecDecodeToTheirInstructions : Prop :=
  decode4 0x3E 0x05 0 0 = .ldRN .a 0x05 ∧ decode4 0xC6 0x03 0 0 = .addAN 0x03 ∧ decode4 0x76 0 0 0 = .halt ∧
    decode4 0x41 0 0 0 = .ldRR .b .c ∧ decode4 0x21 0x34 0x12 0 = .ldDdNn .hl 0x1234 ∧
    decode4 0xF5 0 0 0 = .pushQq .af ∧ decode4 0xEB 0 0 0 = .exDeHl ∧ decode4 0xED 0xB0 0 0 = .ldir ∧
    decode4 0x27 0 0 0 = .daa ∧ decode4 0x29 0 0 0 = .addHlSs .hl ∧ decode4 0xCB 0x01 0 0 = .rlcR .c ∧
    decode4 0xCB 0x7F 0 0 = .bitBR 7 .a ∧ decode4 0xCA 0x00 0x80 0 = .jpCcNn .z 0x8000 ∧
    decode4 0x38 0x10 0 0 = .jrCE 0x10 ∧ decode4 0xFF 0 0 0 = .rstP 7 ∧ decode4 0xD3 0xBF 0 0 = .outPortNA 0xBF ∧
    decode4 0xED 0x58 0 0 = .inRPortC .e ∧ decode4 0xDD 0x36 0x05 0x7F = .ldIxdN 0x05 0x7F ∧
    decode4 0xDD 0x29 0 0 = .addIxPp .ix ∧ decode4 0xFD 0x86 0xFF 0 = .addAIyd 0xFF ∧
    decode4 0xDD 0xCB 0x05 0x5E = .bitBIxd 3 0x05 ∧ decode4 0xFD 0xCB 0x80 0xC6 = .setBIyd 0 0x80 ∧
    decode4 0xED 0x00 0 0 = .unknownEd 0x00 ∧ decode4 0xDD 0x24 0 0 = .unknownHalfIndexDd 0x24 ∧
    decode4 0xDD 0x00 0 0 = .discardedPrefixDd 0x00 ∧ decode4 0xDD 0xCB 0x05 0x00 = .unknownDdcb 0x05 0x00

/-- Every well-formed instruction encodes to a key that its row of opcode_table.json selects (`key & mask = match`),
in as many bytes as the row's length; a discarded prefix alone is two bytes of key for a row of length 1 (R104,
R109). -/
def Obligations.EncodingsMatchTheOpcodeTable : Prop :=
  ∀ i : Instr, i.WellFormed →
    keyNumber (encode i) &&& (tableRow i).2.1 = (tableRow i).1 ∧
      (encode i).length =
        match i with
        | .discardedPrefixDd _ | .discardedPrefixFd _ => (tableRow i).2.2 + 1
        | _ => (tableRow i).2.2

/-- Decoding inverts encoding: a well-formed instruction's bytes, followed by any bytes, decode to that instruction
and leave the bytes that follow. -/
def Obligations.DecodeInvertsEncode : Prop :=
  ∀ (i : Instr) (rest : List Byte), i.WellFormed → decode (encode i ++ rest) = .ok (i, rest)

/-- Encoding inverts decoding: any four bytes decode to a well-formed instruction whose encoding is their first
bytes. -/
def Obligations.EncodeInvertsDecode : Prop :=
  ∀ b0 b1 b2 b3 : Byte,
    (decode4 b0 b1 b2 b3).WellFormed ∧
      encode (decode4 b0 b1 b2 b3) = [b0, b1, b2, b3].take (decode4 b0 b1 b2 b3).size

/-! ## Registers, conditions, memory -/

/-- The register file (R10, R21, R28): a register reads as last written and no other changes; each pair is the live
composition of its halves; F is the byte of its eight bits in R28's positions. -/
def Obligations.RegistersReadAsWritten : Prop :=
  (∀ (b : Bank) (q r : Reg8) (v : Byte), (b.set q v).get r = if r = q then v else b.get r) ∧
    (∀ b : Bank,
      b.bc.toNat = 256 * b.b.toNat + b.c.toNat ∧ b.de.toNat = 256 * b.d.toNat + b.e.toNat ∧
        b.hl.toNat = 256 * b.h.toNat + b.l.toNat ∧ b.af.toNat = 256 * b.a.toNat + b.f.toByte.toNat) ∧
    (∀ (b : Bank) (v : Word), (b.setBc v).bc = v ∧ (b.setDe v).de = v ∧ (b.setHl v).hl = v ∧ (b.setAf v).af = v) ∧
    ∀ f : Flags,
      f.toByte.getLsbD 7 = f.s ∧ f.toByte.getLsbD 6 = f.z ∧ f.toByte.getLsbD 5 = f.f5 ∧
        f.toByte.getLsbD 4 = f.h ∧ f.toByte.getLsbD 3 = f.f3 ∧ f.toByte.getLsbD 2 = f.p ∧
        f.toByte.getLsbD 1 = f.n ∧ f.toByte.getLsbD 0 = f.c ∧ Flags.ofByte f.toByte = f

/-- The eight conditions (R16), in the order of their codes (R94). -/
def Obligations.ConditionsTestTheirFlags : Prop :=
  (∀ f : Flags,
    (f.cond (Cond.ofCode 0) = true ↔ f.z = false) ∧ (f.cond (Cond.ofCode 1) = true ↔ f.z = true) ∧
      (f.cond (Cond.ofCode 2) = true ↔ f.c = false) ∧ (f.cond (Cond.ofCode 3) = true ↔ f.c = true) ∧
      (f.cond (Cond.ofCode 4) = true ↔ f.p = false) ∧ (f.cond (Cond.ofCode 5) = true ↔ f.p = true) ∧
      (f.cond (Cond.ofCode 6) = true ↔ f.s = false) ∧ (f.cond (Cond.ofCode 7) = true ↔ f.s = true)) ∧
    (Cond.ofCode 0 = .nz ∧ Cond.ofCode 1 = .z ∧ Cond.ofCode 2 = .nc ∧ Cond.ofCode 3 = .c ∧
      Cond.ofCode 4 = .po ∧ Cond.ofCode 5 = .pe ∧ Cond.ofCode 6 = .p ∧ Cond.ofCode 7 = .m)

/-- The default memory (R62, R65) and its byte order (R63, R64): with the default `Mem` a read gives the byte most
recently written and changes nothing, a 16-bit value has its low byte at `a` and its high byte at `a + 1`, modulo
65,536, and fetches only move PC; canonical memories that read the same are equal; and effective addresses are
`trunc16(IX + sext8(d))` (R95), whatever the `Mem`. -/
def Obligations.MemoryIsAFlatArrayOfBytes : Prop :=
  (∀ s : State, s.mem.isFlat = true →
    (∀ (a x : Word) (v : Byte), (s.wr a v).rd x = if x = a then v else s.rd x) ∧
      (∀ a : Word, s.afterRd a = s ∧ (s.rd16 a).toNat = (s.rd a).toNat + 256 * (s.rd (a + 1)).toNat) ∧
      (∀ a v : Word,
        (s.wr16 a v).rd a = loByte v ∧ (s.wr16 a v).rd (a + 1) = hiByte v ∧ (s.wr16 a v).rd16 a = v) ∧
      ∀ n, s.skip n = { s with pc := s.pc + BitVec.ofNat 16 n } ∧
        s.fetchByte n = s.rd (s.pc + BitVec.ofNat 16 n)) ∧
    (∀ m m' : List Host.Cell, Memory.wf m = true → Memory.wf m' = true →
      (∀ x, (Mem.flat m).read x = (Mem.flat m').read x) → m = m') ∧
    ∀ (s : State) (d : Byte), s.ixd d = displaced s.ix d ∧ s.iyd d = displaced s.iy d

/-! ## The step (60_exceptions.md) -/

/-- A step runs the decoded instruction: when, after the host's input and the feeding of the interrupt line, no fault
is held, nothing is accepted and the CPU is not halted, and the bytes fetched at PC decode to `i`, the step is `exec`
of `i` (under the machine's `DiscardSet`) with `i`'s bytes fetched and PC past them, then the refresh of R, then the
driver's tick (R441, R467, R12, R27). The feeding is the level copy by default, or D20's edge transfer, whose form is
the model's (log entry 1); a fetch reads memory from PC on and moves PC (R12). -/
def Obligations.StepRunsTheDecodedInstruction : Prop :=
  (∀ (s : State) (i : Instr) (rest : List Byte),
    let u := s.afterInput.feedInterrupt
    u.fault = none → u.nmiPending = false → ¬(u.intPending = true ∧ u.im = .im1 ∧ u.iff1 = true) →
    u.halted = false →
    decode [u.fetchByte 0, u.fetchByte 1, u.fetchByte 2, u.fetchByte 3] = .ok (i, rest) →
    step s =
      Out.mapNext (State.driveVdp u.tStates s.nextInput.shouldRender)
        (Out.mapNext State.refreshR (exec (u.params.classify i) (u.skip i.size)))) ∧
    (∀ s : State,
      (s.params.feed = .level → s.feedInterrupt = { s with intPending := s.vdp.irqPending }) ∧
        (s.params.feed = .edge →
          s.feedInterrupt =
            { s with
              intPending := s.intPending || s.vdp.irqPending
              vdp := { s.vdp with irqPending := false } })) ∧
    ∀ (s : State) (n : Nat),
      s.fetchByte n = (s.skip n).rd (s.pc + BitVec.ofNat 16 n) ∧
        s.skip (n + 1) =
          { (s.skip n).afterRd (s.pc + BitVec.ofNat 16 n) with pc := s.pc + BitVec.ofNat 16 (n + 1) }

/-- NMI entry (R442, R454, R445): with `nmi_pending` set the step pushes PC, clears the halt latch and IFF1, goes to
0x0066 and clears `nmi_pending`, whatever else is pending; IFF2, `int_pending`, T-states and everything else but the
low bits of R stay. -/
def Obligations.NmiEntryPushesPcAndGoesTo0066 : Prop :=
  ∀ s : State, s.nmiPending = true →
    ∃ t, cpuStep s = .next t ∧ PushedBytes s t s.pc ∧ t.r.getLsbD 7 = s.r.getLsbD 7 ∧
      t =
        { s with
          mem := t.mem
          sp := s.sp - 2
          halted := false
          pc := 0x0066
          iff1 := false
          nmiPending := false
          r := t.r
          draws := t.draws }

/-- Maskable entry (R443, R454): with `int_pending`, mode 1 and IFF1 set and no NMI pending, the step pushes PC,
clears the halt latch and both flip-flops, goes to 0x0038 and clears `int_pending`; everything else but the low bits
of R stays. -/
def Obligations.MaskableEntryPushesPcAndGoesTo0038 : Prop :=
  ∀ s : State, s.nmiPending = false → s.intPending = true → s.im = .im1 → s.iff1 = true →
    ∃ t, cpuStep s = .next t ∧ PushedBytes s t s.pc ∧ t.r.getLsbD 7 = s.r.getLsbD 7 ∧
      t =
        { s with
          mem := t.mem
          sp := s.sp - 2
          halted := false
          pc := 0x0038
          iff1 := false
          iff2 := false
          intPending := false
          r := t.r
          draws := t.draws }

/-- The idle step (R444): a halted CPU that accepts nothing (no NMI; no request, or mode 0 or 2, or IFF1 clear) adds
4 T-states and changes nothing else but the low bits of R; so it stays halted. -/
def Obligations.HaltedCpuIdlesFourTStates : Prop :=
  ∀ s : State, s.halted = true → s.nmiPending = false →
    (s.intPending = false ∨ s.im = .im0 ∨ s.im = .im2 ∨ s.iff1 = false) →
    ∃ t, cpuStep s = .next t ∧ t.r.getLsbD 7 = s.r.getLsbD 7 ∧
      t = { s with tStates := s.tStates + 4, r := t.r, draws := t.draws }

/-- A pending maskable request that is not accepted is never dropped (R35, R446): whatever the step does, EI's nested
step included, `int_pending` stays, and no NMI appears. -/
def Obligations.PendingRequestIsNeverDropped : Prop :=
  ∀ s t : State, s.nmiPending = false → ¬(s.intPending = true ∧ s.im = .im1 ∧ s.iff1 = true) →
    cpuStep s = .next t → t.intPending = s.intPending ∧ t.nmiPending = false

/-- After a fault (R38, R452): a machine that holds a fault is stuck with it, unless the host's input of the turn is a
reset; with a reset the turn is that of a machine right after `Reset()` under the same parameters, the machine's
`ResetState` among them, with the image loaded; and such a machine holds no fault where `ResetState` does not override
that line. How the host's inputs are held, that the loaded image is all of a flat memory, and that one `ResetState`
serves every reset are the model's (log entries 1 and 2, 18, and 21). -/
def Obligations.FaultHoldsUntilTheHostResets : Prop :=
  (∀ (s : State) (f : Fault), s.fault = some f → s.nextInput.reset = none → step s = .fault f) ∧
    ∀ (s : State) (image : List Host.Cell), s.nextInput.reset = some image →
      step s =
          step
            (State.resetWith s.params s.vdp.screen s.resetState (s.mem.load image)
              ({ s.nextInput with reset := none } :: s.inputs.tail) s.draws) ∧
        (s.resetState.fault = none → s.afterInput.fault = none)

/-- The driver (R467): after a step without a fault the VDP is ticked by `(acc + tickNum * n) div tickDen` cycles for
the `n` T-states of the step and `acc` keeps the remainder; after a faulting step it is not, and the turn ends. R467
and D21 give the default, `(acc + 3 n) div 2`. The general form of `TickScale` is the model's own (log entry 1), and
so is that a faulting step answers a next state, which holds the fault (log entry 13). By default the step sees only
the VDP's `irq_pending`, never the old `int_pending`. -/
def Obligations.DriverScalesTStatesToVdpCycles : Prop :=
  (∀ s u : State, s.afterInput.fault = none → cpuStep s.afterInput.feedInterrupt = .next u →
    let scaled := u.acc + u.params.tickNum * (u.tStates - s.afterInput.tStates)
    (u.fault = none →
      ∃ t, step s = .next t ∧
        t.vdp = u.vdp.tick (scaled / u.params.tickDen) s.nextInput.shouldRender ∧
        u.params.tickDen * (scaled / u.params.tickDen) + t.acc = scaled ∧
        (0 < u.params.tickDen → t.acc < u.params.tickDen) ∧ t = { u with vdp := t.vdp, acc := t.acc }) ∧
      (u.fault ≠ none → step s = .next u)) ∧
    (Params.default.tickNum = 3 ∧ Params.default.tickDen = 2 ∧ Params.default.feed = .level) ∧
    ∀ (s : State) (b : Bool), s.params.feed = .level → step { s with intPending := b } = step s

/-- The state after reset (R541) where `ResetState` overrides no line, under all other parameters, whatever `u` stands
in the unspecified elements, and for every memory: every defined element at its value, and the first instruction
fetched from 0x0000, which is said byte by byte for the default `Mem`. -/
def Obligations.ResetSetsTheDefinedElements : Prop :=
  (∀ (p : Params) (screen : Screen) (u : Unspecified) (mem : Mem) (inputs : List HostInput) (draws : Nat),
    let s := State.resetWith p screen (ResetState.ofTable u) mem inputs draws
    s.pc = 0x0000 ∧ s.iff1 = false ∧ s.iff2 = false ∧ s.im = .im0 ∧ s.i = 0x00 ∧ s.r = 0x00 ∧ s.halted = false ∧
      s.nmiPending = false ∧ s.intPending = false ∧ s.tStates = 0 ∧ s.fault = none ∧
      (∀ k : Fin 16, s.vdp.vr[k] = 0) ∧ s.vdp.addr = 0 ∧ s.vdp.code = 0 ∧ s.vdp.latch = false ∧
      s.vdp.readbuf = 0 ∧ s.vdp.status = 0 ∧ s.vdp.irqPending = false ∧ s.vdp.hcount = 0 ∧ s.vdp.vcount = 0 ∧
      s.vdp.vjump = false ∧ s.vdp.linecnt = 0 ∧ s.acc = 0 ∧
      s.main = u.main ∧ s.shadow = u.shadow ∧ s.ix = u.ix ∧ s.iy = u.iy ∧ s.sp = u.sp ∧
      s.vdp.vram = u.vram ∧ s.vdp.cram = u.cram ∧ s.vdp.fb = u.fb ∧
      s.params = p ∧ s.vdp.screen = screen ∧ s.mem = mem ∧ s.fetchByte 0 = mem.read 0x0000) ∧
    ∀ (p : Params) (screen : Screen) (u : Unspecified) (image : List Host.Cell) (inputs : List HostInput)
      (draws : Nat),
      (State.resetWith p screen (ResetState.ofTable u) (.flat image) inputs draws).fetchInstr =
        p.classify
          (decode4 (Memory.read image 0x0000) (Memory.read image 0x0001) (Memory.read image 0x0002)
            (Memory.read image 0x0003))

/-- `Reset()` puts into every line of R41's and R42's tables what `ResetState` gives it, whichever lines it overrides
(R41, R540). The invariant holds right after, for every canonical memory, every `ResetState` whose VDP meets it and
every `TickScale` that divides; so for the tables' values with every canonical VRAM and framebuffer, and at
`State.reset`. The form of `ResetState` is the model's (log entry 21). -/
def Obligations.ResetTakesResetStateAndMeetsTheInvariant : Prop :=
  (∀ (p : Params) (screen : Screen) (r : ResetState) (mem : Mem) (inputs : List HostInput) (draws : Nat),
    let s := State.resetWith p screen r mem inputs draws
    s.main = r.main ∧ s.shadow = r.shadow ∧ s.ix = r.ix ∧ s.iy = r.iy ∧ s.sp = r.sp ∧ s.pc = r.pc ∧ s.i = r.i ∧
      s.r = r.r ∧ s.iff1 = r.iff1 ∧ s.iff2 = r.iff2 ∧ s.im = r.im ∧ s.halted = r.halted ∧
      s.nmiPending = r.nmiPending ∧ s.intPending = r.intPending ∧ s.tStates = r.tStates ∧ s.fault = r.fault ∧
      s.vdp = { r.vdp with screen := screen } ∧ s.acc = 0 ∧ s.mem = mem ∧ s.params = p ∧ s.resetState = r ∧
      (0 < p.tickDen → mem.wf = true → r.vdp.inv = true → s.Inv)) ∧
    (∀ u : Unspecified, Vram.wf u.vram = true → Fb.wf u.fb = true → (ResetState.ofTable u).vdp.inv = true) ∧
    State.reset.Inv

/-- Every step keeps the invariant: memory, VRAM and framebuffer in canonical form, status bits 4:0 clear (R483),
`hcount` below 342 (R481), `vcount` and `vjump` in agreement (R498), the VDP of `ResetState` likewise, less than one
VDP cycle carried (R467); and no step changes a parameter of R7. -/
def Obligations.EveryStepKeepsTheInvariant : Prop :=
  (∀ s t : State, s.Inv → step s = .next t → t.Inv) ∧
    ∀ s t : State, step s = .next t →
      t.params = s.params ∧ t.resetState = s.resetState ∧ t.vdp.screen = s.vdp.screen ∧ t.mem.isFlat = s.mem.isFlat

/-- What raises (R450, R451, R453): every instruction but EI answers a next state, and that state holds a new fault
exactly when the instruction is an unknown key or its port is unregistered; a step never refuses. The registered ports
and the holding of the fault in a next state are the model's (log entries 12 and 13). -/
def Obligations.OnlyUnknownKeysAndPortsRaise : Prop :=
  (∀ (i : Instr) (s : State), i ≠ .ei →
    ∃ t, exec i s = .next t ∧
      t.fault = match faultOf s i with
        | some f => some f
        | none => s.fault) ∧
    ∀ (s : State) (r : Refusal), step s ≠ .refused r

/-- Bit 7 of R (R27, R441): no step changes it unless the instruction at PC is `LD R,A` or EI (whose nested step may
be `LD R,A`); `LD R,A` sets it from A. Bits 6:0 are a free value after every step, so nothing is said of them. -/
def Obligations.OnlyLdRAChangesBitSevenOfR : Prop :=
  ∀ s t : State, cpuStep s = .next t →
    (s.fetchInstr ≠ .ldRA → s.fetchInstr ≠ .ei → t.r.getLsbD 7 = s.r.getLsbD 7) ∧
      (s.nmiPending = false → s.intPending = false → s.halted = false → s.fetchInstr = .ldRA →
        t.r.getLsbD 7 = s.main.a.getLsbD 7)

/-! ## Rules over all instructions -/

/-- The cost table (R548): every instruction but EI that raises no fault adds its T-states, the first cost of its row
of the parameter `Cost` where its branch is taken or it repeats, the second where not; a faulting one adds none; and
the default `Cost`, EI's row with it, is R548's table. The parameter's form is the model's (log entry 11), and so are
which ports are registered and that a fault is held in a next state (log entries 12 and 13). -/
def Obligations.EveryInstructionAddsItsCost : Prop :=
  (∀ (i : Instr) (s : State), i ≠ .ei →
    ∃ t, exec i s = .next t ∧
      t.tStates = s.tStates + if (faultOf s i).isSome then 0 else charge s i) ∧
    ∀ i : Instr, costOf Params.default.cost i = standardCost i

/-- What each instruction writes among the registers and control state, and that it leaves the rest: A, F, the
pairs, IX, IY, SP, PC (past the instruction), I, R, the flip-flops, IM, the halt latch, the pending flags and the
shadow bank; the driver's `acc`, the host's inputs and the parameters are never touched. -/
def Obligations.InstructionsWriteOnlyTheirRegisters : Prop :=
  ∀ (i : Instr) (s : State), i ≠ .ei →
    ∃ t, exec i s = .next t ∧ (∀ p, p ∉ writes i → p.same s t) ∧ t.acc = s.acc ∧ t.inputs = s.inputs ∧
      t.params = s.params ∧ t.resetState = s.resetState ∧ t.vdp.screen = s.vdp.screen

/-- Memory changes only at the addresses the instruction's rule stores to. For every `Mem` the component sees exactly
the instruction's reads and then its stores, each once and in the rule's order (R76); so with the default `Mem` every
other byte reads as before, and an instruction that stores nothing leaves memory as it is. That an input from an
unregistered port stores nothing rests on log entries 12 and 13. -/
def Obligations.InstructionsStoreOnlyWhereTheirRulesSay : Prop :=
  ∀ (i : Instr) (s : State), i ≠ .ei →
    ∃ t vs, exec i s = .next t ∧ vs.length = (storesTo s i).length ∧
      t.mem = storeAll (readAll s.mem (readsOf s i)) ((storesTo s i).zip vs) ∧
      (s.mem.isFlat = true → (∀ x, x ∉ storesTo s i → t.rd x = s.rd x) ∧ (storesTo s i = [] → t.mem = s.mem))

/-- The CPU reaches the VDP only through port operations (R75, R39): every other instruction leaves all of the VDP's
state; a port operation on a port that is not the VDP's leaves it too. The parameter `Ports` has the model's form (log
entry 12). -/
def Obligations.OnlyPortOperationsReachTheVdp : Prop :=
  ∀ (i : Instr) (s : State), i ≠ .ei →
    ∃ t, exec i s = .next t ∧
      ((match portOf s i with
        | some (lo, _, _) => vdpPort s lo
        | none => false) = false →
        t.vdp = s.vdp)

/-! ## 8-bit loads (40_load8.md) -/

/-- 8-bit loads into a register (R130 to R134, R141 to R143). -/
def Obligations.LoadsPutTheOperandInTheRegister : Prop :=
  ∀ s : State,
    (∀ r r', ∃ t, exec (.ldRR r r') s = .next t ∧ LoadsReg s t r (s.r8 r') (s.cost (.ldRR r r'))) ∧
      (∀ r n, ∃ t, exec (.ldRN r n) s = .next t ∧ LoadsReg s t r n (s.cost (.ldRN r n))) ∧
      (∀ r, ∃ t, exec (.ldRIndHl r) s = .next t ∧
        LoadsReg (s.afterRd s.main.hl) t r (s.rd s.main.hl) (s.cost (.ldRIndHl r))) ∧
      (∀ r d, ∃ t, exec (.ldRIxd r d) s = .next t ∧
        LoadsReg (s.afterRd (s.ixd d)) t r (s.rd (s.ixd d)) (s.cost (.ldRIxd r d))) ∧
      (∀ r d, ∃ t, exec (.ldRIyd r d) s = .next t ∧
        LoadsReg (s.afterRd (s.iyd d)) t r (s.rd (s.iyd d)) (s.cost (.ldRIyd r d))) ∧
      (∃ t, exec .ldAIndBc s = .next t ∧ LoadsReg (s.afterRd s.main.bc) t .a (s.rd s.main.bc) (s.cost .ldAIndBc)) ∧
      (∃ t, exec .ldAIndDe s = .next t ∧ LoadsReg (s.afterRd s.main.de) t .a (s.rd s.main.de) (s.cost .ldAIndDe)) ∧
      ∀ nn, ∃ t, exec (.ldAIndNn nn) s = .next t ∧ LoadsReg (s.afterRd nn) t .a (s.rd nn) (s.cost (.ldAIndNn nn))

/-- Loads into memory, one byte (R135 to R140, R144 to R146) or a word, low byte first (R167 to R170). -/
def Obligations.LoadsPutTheOperandInMemory : Prop :=
  ∀ s : State,
    (∀ r, ∃ t, exec (.ldIndHlR r) s = .next t ∧ StoresByte s t s.main.hl (s.r8 r) (s.cost (.ldIndHlR r))) ∧
      (∀ n, ∃ t, exec (.ldIndHlN n) s = .next t ∧ StoresByte s t s.main.hl n (s.cost (.ldIndHlN n))) ∧
      (∀ d r, ∃ t, exec (.ldIxdR d r) s = .next t ∧ StoresByte s t (s.ixd d) (s.r8 r) (s.cost (.ldIxdR d r))) ∧
      (∀ d r, ∃ t, exec (.ldIydR d r) s = .next t ∧ StoresByte s t (s.iyd d) (s.r8 r) (s.cost (.ldIydR d r))) ∧
      (∀ d n, ∃ t, exec (.ldIxdN d n) s = .next t ∧ StoresByte s t (s.ixd d) n (s.cost (.ldIxdN d n))) ∧
      (∀ d n, ∃ t, exec (.ldIydN d n) s = .next t ∧ StoresByte s t (s.iyd d) n (s.cost (.ldIydN d n))) ∧
      (∃ t, exec .ldIndBcA s = .next t ∧ StoresByte s t s.main.bc s.main.a (s.cost .ldIndBcA)) ∧
      (∃ t, exec .ldIndDeA s = .next t ∧ StoresByte s t s.main.de s.main.a (s.cost .ldIndDeA)) ∧
      (∀ nn, ∃ t, exec (.ldIndNnA nn) s = .next t ∧ StoresByte s t nn s.main.a (s.cost (.ldIndNnA nn))) ∧
      (∀ nn, ∃ t, exec (.ldIndNnHl nn) s = .next t ∧ StoresWord s t nn s.main.hl (s.cost (.ldIndNnHl nn))) ∧
      (∀ nn dd, ∃ t, exec (.ldIndNnDd nn dd) s = .next t ∧
        StoresWord s t nn (s.pair dd) (s.cost (.ldIndNnDd nn dd))) ∧
      (∀ nn, ∃ t, exec (.ldIndNnIx nn) s = .next t ∧ StoresWord s t nn s.ix (s.cost (.ldIndNnIx nn))) ∧
      ∀ nn, ∃ t, exec (.ldIndNnIy nn) s = .next t ∧ StoresWord s t nn s.iy (s.cost (.ldIndNnIy nn))

/-- The I and R loads (R147 to R150): LD A,I and LD A,R set S and Z from the value, clear H and N, copy IFF2 to P/V
and keep C; LD I,A and LD R,A write all eight bits and no flag. -/
def Obligations.InterruptAndRefreshRegisterLoads : Prop :=
  ∀ s : State,
    (∃ t, exec .ldAI s = .next t ∧ OnlyAF s t (s.cost .ldAI) ∧ t.main.a = s.i ∧
      t.main.f.s = s.i.getLsbD 7 ∧ t.main.f.z = decide (s.i.toNat = 0) ∧ t.main.f.h = false ∧
      t.main.f.p = s.iff2 ∧ t.main.f.n = false ∧ t.main.f.c = s.main.f.c) ∧
      (∃ t, exec .ldAR s = .next t ∧ OnlyAF s t (s.cost .ldAR) ∧ t.main.a = s.r ∧
        t.main.f.s = s.r.getLsbD 7 ∧ t.main.f.z = decide (s.r.toNat = 0) ∧ t.main.f.h = false ∧
        t.main.f.p = s.iff2 ∧ t.main.f.n = false ∧ t.main.f.c = s.main.f.c) ∧
      exec .ldIA s = .next { s with i := s.main.a, tStates := s.tStates + s.cost .ldIA } ∧
      exec .ldRA s = .next { s with r := s.main.a, tStates := s.tStates + s.cost .ldRA }

/-! ## 16-bit loads and the stack (41_load16.md) -/

/-- 16-bit loads into a pair, IX, IY or SP (R160 to R166, R171 to R173), low byte of memory first (R63). -/
def Obligations.SixteenBitLoadsIntoRegisters : Prop :=
  ∀ s : State,
    (∀ dd nn, ∃ t, exec (.ldDdNn dd nn) s = .next t ∧ LoadsPair s t dd nn (s.cost (.ldDdNn dd nn))) ∧
      (∀ dd nn, ∃ t, exec (.ldDdIndNn dd nn) s = .next t ∧
        LoadsPair (s.afterRd16 nn) t dd (wordAt s nn) (s.cost (.ldDdIndNn dd nn))) ∧
      (∀ nn, ∃ t, exec (.ldHlIndNn nn) s = .next t ∧
        LoadsPair (s.afterRd16 nn) t .hl (wordAt s nn) (s.cost (.ldHlIndNn nn))) ∧
      (∃ t, exec .ldSpHl s = .next t ∧ LoadsPair s t .sp s.main.hl (s.cost .ldSpHl)) ∧
      (∃ t, exec .ldSpIx s = .next t ∧ LoadsPair s t .sp s.ix (s.cost .ldSpIx)) ∧
      (∃ t, exec .ldSpIy s = .next t ∧ LoadsPair s t .sp s.iy (s.cost .ldSpIy)) ∧
      (∀ nn, exec (.ldIxNn nn) s = .next { s with ix := nn, tStates := s.tStates + s.cost (.ldIxNn nn) }) ∧
      (∀ nn, exec (.ldIyNn nn) s = .next { s with iy := nn, tStates := s.tStates + s.cost (.ldIyNn nn) }) ∧
      (∀ nn, exec (.ldIxIndNn nn) s =
        .next
          { s.afterRd16 nn with ix := wordAt s nn, tStates := s.tStates + s.cost (.ldIxIndNn nn) }) ∧
      ∀ nn, exec (.ldIyIndNn nn) s =
        .next
          { s.afterRd16 nn with iy := wordAt s nn, tStates := s.tStates + s.cost (.ldIyIndNn nn) }

/-- The stack (R13, R174 to R179): a push stores the high byte at SP-1 and the low byte at SP-2 and leaves SP down by
two; a pop takes the low byte at SP and the high byte at SP+1 and leaves SP up by two; POP AF loads all of F. -/
def Obligations.StackPushesAndPops : Prop :=
  ∀ s : State,
    (∀ qq, ∃ t, exec (.pushQq qq) s = .next t ∧ Pushes s t (s.stackPair qq) s.pc (s.cost (.pushQq qq))) ∧
      (∃ t, exec .pushIx s = .next t ∧ Pushes s t s.ix s.pc (s.cost .pushIx)) ∧
      (∃ t, exec .pushIy s = .next t ∧ Pushes s t s.iy s.pc (s.cost .pushIy)) ∧
      (∀ qq, ∃ t, exec (.popQq qq) s = .next t ∧
        t.stackPair qq = wordAt s s.sp ∧ (∀ q, q ≠ qq → t.stackPair q = s.stackPair q) ∧
        t = { s.afterRd16 s.sp with main := t.main, sp := s.sp + 2, tStates := s.tStates + s.cost (.popQq qq) }) ∧
      exec .popIx s =
        .next
          { s.afterRd16 s.sp with
            ix := wordAt s s.sp
            sp := s.sp + 2
            tStates := s.tStates + s.cost .popIx } ∧
      exec .popIy s =
        .next
          { s.afterRd16 s.sp with
            iy := wordAt s s.sp
            sp := s.sp + 2
            tStates := s.tStates + s.cost .popIy }

/-- With the default `Mem` a pop after a push gives back the word pushed and the stack pointer, whichever pair takes
it (R13, R25). -/
def Obligations.PopAfterPushGivesTheWordBack : Prop :=
  ∀ (s : State) (q q' : StackPair), s.mem.isFlat = true →
    ∃ t u, exec (.pushQq q) s = .next t ∧ exec (.popQq q') t = .next u ∧
      u.stackPair q' = s.stackPair q ∧ u.sp = s.sp ∧
      ∃ v, exec .popIx t = .next v ∧ v.ix = s.stackPair q ∧ v.sp = s.sp

/-! ## Exchange, block move and search (42_exchange_block.md) -/

/-- The exchanges (R190 to R195): the register exchanges swap exactly the named registers; EX (SP),x swaps x with
the word at SP, which keeps its byte order, and leaves SP. -/
def Obligations.ExchangesSwapTheirOperands : Prop :=
  ∀ s : State,
    (∃ t, exec .exDeHl s = .next t ∧ t.main.de = s.main.hl ∧ t.main.hl = s.main.de ∧
      t =
        { s with
          main := { s.main with d := t.main.d, e := t.main.e, h := t.main.h, l := t.main.l }
          tStates := s.tStates + s.cost .exDeHl }) ∧
      exec .exAfAf s =
        .next
          { s with
            main := { s.main with a := s.shadow.a, f := s.shadow.f }
            shadow := { s.shadow with a := s.main.a, f := s.main.f }
            tStates := s.tStates + s.cost .exAfAf } ∧
      exec .exx s =
        .next
          { s with
            main := { s.shadow with a := s.main.a, f := s.main.f }
            shadow := { s.main with a := s.shadow.a, f := s.shadow.f }
            tStates := s.tStates + s.cost .exx } ∧
      (∃ t, exec .exIndSpHl s = .next t ∧ HoldsBytes s t s.sp (s.sp + 1) s.main.l s.main.h ∧
        t =
          { s with
            mem := ((s.afterRd16 s.sp).mem.write (s.sp + 1) s.main.h).write s.sp s.main.l
            main := { s.main with h := (s.afterRd s.sp).rd (s.sp + 1), l := s.rd s.sp }
            tStates := s.tStates + s.cost .exIndSpHl }) ∧
      (∃ t, exec .exIndSpIx s = .next t ∧
        HoldsBytes s t s.sp (s.sp + 1) (loByte s.ix) (hiByte s.ix) ∧
        t =
          { s with
            mem := ((s.afterRd16 s.sp).mem.write (s.sp + 1) (hiByte s.ix)).write s.sp (loByte s.ix)
            ix := wordAt s s.sp
            tStates := s.tStates + s.cost .exIndSpIx }) ∧
      ∃ t, exec .exIndSpIy s = .next t ∧
        HoldsBytes s t s.sp (s.sp + 1) (loByte s.iy) (hiByte s.iy) ∧
        t =
          { s with
            mem := ((s.afterRd16 s.sp).mem.write (s.sp + 1) (hiByte s.iy)).write s.sp (loByte s.iy)
            iy := wordAt s s.sp
            tStates := s.tStates + s.cost .exIndSpIy }

/-- The block moves (R196 to R200): one byte from (HL) to (DE); HL and DE up (LDI, LDIR) or down (LDD, LDDR), BC down;
H and N clear, P/V tells BC is not zero, S, Z and C stay; the repeating forms go back to their own opcode while BC is
not zero, at their first cost, else go on at their second. -/
def Obligations.BlockMovesMoveOneByteAStep : Prop :=
  ∀ (s : State) (i : Instr) (by_ : Word) (repeats : Bool),
    (i, by_, repeats) ∈
      [(Instr.ldi, 1, false), (Instr.ldd, 0xFFFF, false), (Instr.ldir, 1, true), (Instr.lddr, 0xFFFF, true)] →
    ∃ t, exec i s = .next t ∧ HoldsByte s t s.main.de (s.rd s.main.hl) ∧
      t.main.hl = s.main.hl + by_ ∧ t.main.de = s.main.de + by_ ∧ t.main.bc = s.main.bc - 1 ∧
      t.main.a = s.main.a ∧ t.main.f.h = false ∧ t.main.f.n = false ∧
      t.main.f.p = decide (s.main.bc ≠ 1) ∧ t.main.f.s = s.main.f.s ∧ t.main.f.z = s.main.f.z ∧
      t.main.f.c = s.main.f.c ∧
      t =
        { s with
          mem := (s.afterRd s.main.hl).mem.write s.main.de (s.rd s.main.hl)
          main := t.main
          draws := t.draws
          pc := if repeats = true ∧ s.main.bc ≠ 1 then s.pc - 2 else s.pc
          tStates := s.tStates + if repeats = true ∧ s.main.bc = 1 then s.costElse i else s.cost i }

/-- The block searches (R196, R201 to R204): A compared with (HL); HL up or down, BC down; S, Z and H as A - (HL) sets
them, N set, P/V tells BC is not zero, C and A stay; the repeating forms go back while BC is not zero and no match was
found. -/
def Obligations.BlockSearchesCompareOneByteAStep : Prop :=
  ∀ (s : State) (i : Instr) (by_ : Word) (repeats : Bool),
    (i, by_, repeats) ∈
      [(Instr.cpi, 1, false), (Instr.cpd, 0xFFFF, false), (Instr.cpir, 1, true), (Instr.cpdr, 0xFFFF, true)] →
    ∃ t r f, exec i s = .next t ∧ IsSub8 s.main.a (s.rd s.main.hl) false r f ∧
      t.main.f.s = f.s ∧ t.main.f.z = f.z ∧ t.main.f.h = f.h ∧ t.main.f.n = true ∧
      t.main.f.p = decide (s.main.bc ≠ 1) ∧ t.main.f.c = s.main.f.c ∧
      t.main.hl = s.main.hl + by_ ∧ t.main.bc = s.main.bc - 1 ∧
      t =
        { s.afterRd s.main.hl with
          main := { s.main with b := t.main.b, c := t.main.c, h := t.main.h, l := t.main.l, f := t.main.f }
          draws := t.draws
          pc :=
            if repeats = true ∧ s.main.bc ≠ 1 ∧ s.main.a ≠ s.rd s.main.hl then s.pc - 2 else s.pc
          tStates :=
            s.tStates +
              if repeats = true ∧ (s.main.bc = 1 ∨ s.main.a = s.rd s.main.hl) then s.costElse i else s.cost i }

/-! ## 8-bit arithmetic and logic (43_alu8.md) -/

/-- ADD, ADC, SUB, SBC, CP and NEG set A and the flags as `add8` and `sub8` say (R17, R210 to R229, R245 to R249,
R282), in every operand form; CP leaves A; nothing else changes. -/
def Obligations.AddersMeetAdd8AndSub8 : Prop :=
  ForEachOperand .addAR .addAN .addAIndHl .addAIxd .addAIyd
      (fun s t v n => OnlyAF s t n ∧ IsAdd8 s.main.a v false t.main.a t.main.f) ∧
    ForEachOperand .adcAR .adcAN .adcAIndHl .adcAIxd .adcAIyd
      (fun s t v n => OnlyAF s t n ∧ IsAdd8 s.main.a v s.main.f.c t.main.a t.main.f) ∧
    ForEachOperand .subR .subN .subIndHl .subIxd .subIyd
      (fun s t v n => OnlyAF s t n ∧ IsSub8 s.main.a v false t.main.a t.main.f) ∧
    ForEachOperand .sbcAR .sbcAN .sbcAIndHl .sbcAIxd .sbcAIyd
      (fun s t v n => OnlyAF s t n ∧ IsSub8 s.main.a v s.main.f.c t.main.a t.main.f) ∧
    ForEachOperand .cpR .cpN .cpIndHl .cpIxd .cpIyd
      (fun s t v n => OnlyF s t n ∧ ∃ r, IsSub8 s.main.a v false r t.main.f) ∧
    ∀ s : State, ∃ t, exec .neg s = .next t ∧ OnlyAF s t (s.cost .neg) ∧ IsSub8 0 s.main.a false t.main.a t.main.f

/-- AND, XOR and OR set A bit by bit and the flags as `logic8` says (R18, R230 to R244), in every operand form;
nothing else changes. -/
def Obligations.LogicMeetsLogic8 : Prop :=
  ForEachOperand .andR .andN .andIndHl .andIxd .andIyd
      (fun s t v n => OnlyAF s t n ∧ IsLogic8 t.main.a true t.main.f ∧
        ∀ k, t.main.a.getLsbD k = (s.main.a.getLsbD k && v.getLsbD k)) ∧
    ForEachOperand .xorR .xorN .xorIndHl .xorIxd .xorIyd
      (fun s t v n => OnlyAF s t n ∧ IsLogic8 t.main.a false t.main.f ∧
        ∀ k, t.main.a.getLsbD k = (s.main.a.getLsbD k != v.getLsbD k)) ∧
    ForEachOperand .orR .orN .orIndHl .orIxd .orIyd
      (fun s t v n => OnlyAF s t n ∧ IsLogic8 t.main.a false t.main.f ∧
        ∀ k, t.main.a.getLsbD k = (s.main.a.getLsbD k || v.getLsbD k))

/-- INC and DEC of a register, (HL), (IX+d) and (IY+d) set the operand and the flags as `inc8` and `dec8` say, C kept
(R250, R258 to R265); nothing else changes. -/
def Obligations.IncrementsMeetInc8AndDec8 : Prop :=
  ∀ s : State,
    (∀ r, ∃ t v, exec (.incR r) s = .next t ∧
      OnlyRegF s t r v (s.cost (.incR r)) ∧ IsInc8 (s.r8 r) v s.main.f t.main.f) ∧
      (∀ r, ∃ t v, exec (.decR r) s = .next t ∧
        OnlyRegF s t r v (s.cost (.decR r)) ∧ IsDec8 (s.r8 r) v s.main.f t.main.f) ∧
      (∃ t v, exec .incIndHl s = .next t ∧ OnlyByteF (s.afterRd s.main.hl) t s.main.hl v (s.cost .incIndHl) ∧
        IsInc8 (s.rd s.main.hl) v s.main.f t.main.f) ∧
      (∃ t v, exec .decIndHl s = .next t ∧ OnlyByteF (s.afterRd s.main.hl) t s.main.hl v (s.cost .decIndHl) ∧
        IsDec8 (s.rd s.main.hl) v s.main.f t.main.f) ∧
      (∀ d, ∃ t v, exec (.incIxd d) s = .next t ∧
        OnlyByteF (s.afterRd (s.ixd d)) t (s.ixd d) v (s.cost (.incIxd d)) ∧
        IsInc8 (s.rd (s.ixd d)) v s.main.f t.main.f) ∧
      (∀ d, ∃ t v, exec (.decIxd d) s = .next t ∧
        OnlyByteF (s.afterRd (s.ixd d)) t (s.ixd d) v (s.cost (.decIxd d)) ∧
        IsDec8 (s.rd (s.ixd d)) v s.main.f t.main.f) ∧
      (∀ d, ∃ t v, exec (.incIyd d) s = .next t ∧
        OnlyByteF (s.afterRd (s.iyd d)) t (s.iyd d) v (s.cost (.incIyd d)) ∧
        IsInc8 (s.rd (s.iyd d)) v s.main.f t.main.f) ∧
      ∀ d, ∃ t v, exec (.decIyd d) s = .next t ∧ OnlyByteF (s.afterRd (s.iyd d)) t (s.iyd d) v (s.cost (.decIyd d)) ∧
        IsDec8 (s.rd (s.iyd d)) v s.main.f t.main.f

/-- P/V is signed overflow (R17, R29, R250, R301, R302): after the adders it tells exactly that the signed result
does not fit, in 8 bits and, for ADC HL and SBC HL, in 16. -/
def Obligations.ParityOverflowIsSignedOverflow : Prop :=
  ∀ s : State,
    (∀ n : Byte, ∃ t, exec (.adcAN n) s = .next t ∧
      (t.main.f.p = true ↔
        s.main.a.toInt + n.toInt + num s.main.f.c < -128 ∨ 127 < s.main.a.toInt + n.toInt + num s.main.f.c)) ∧
      (∀ n : Byte, ∃ t, exec (.sbcAN n) s = .next t ∧
        (t.main.f.p = true ↔
          s.main.a.toInt - n.toInt - num s.main.f.c < -128 ∨ 127 < s.main.a.toInt - n.toInt - num s.main.f.c)) ∧
      (∀ r, ∃ t, exec (.incR r) s = .next t ∧ (t.main.f.p = true ↔ 127 < (s.r8 r).toInt + 1)) ∧
      (∀ r, ∃ t, exec (.decR r) s = .next t ∧ (t.main.f.p = true ↔ (s.r8 r).toInt - 1 < -128)) ∧
      (∀ ss, ∃ t, exec (.adcHlSs ss) s = .next t ∧
        (t.main.f.p = true ↔
          s.main.hl.toInt + (s.pair ss).toInt + num s.main.f.c < -32768 ∨
            32767 < s.main.hl.toInt + (s.pair ss).toInt + num s.main.f.c)) ∧
      ∀ ss, ∃ t, exec (.sbcHlSs ss) s = .next t ∧
        (t.main.f.p = true ↔
          s.main.hl.toInt - (s.pair ss).toInt - num s.main.f.c < -32768 ∨
            32767 < s.main.hl.toInt - (s.pair ss).toInt - num s.main.f.c)

/-- The source's round-trip law (S7, C4): ADD A,n then SUB n gives A back; C and H after the SUB are those after the
ADD, N is set, Z and S are those of A. -/
def Obligations.SubtractUndoesAdd : Prop :=
  ∀ (s : State) (n : Byte),
    ∃ t u, exec (.addAN n) s = .next t ∧ exec (.subN n) t = .next u ∧ u.main.a = s.main.a ∧
      u.main.f.c = t.main.f.c ∧ u.main.f.h = t.main.f.h ∧ u.main.f.n = true ∧
      u.main.f.z = decide (s.main.a.toNat = 0) ∧ u.main.f.s = s.main.a.getLsbD 7

/-! ## General-purpose arithmetic and CPU control (44_general_control.md) -/

/-- DAA by its algorithm (R280): the correction from N, H, C and the nibbles, added or subtracted; S, Z and parity
from the result, H and C as the algorithm says, N kept, 4 T-states at the default `Cost`; nothing else changes. -/
def Obligations.DaaFollowsItsAlgorithm : Prop :=
  Sys2Proof.encode .daa = [0x27] ∧
    ∀ s : State,
      let a := s.main.a.toNat
      let f := s.main.f
      let corr := (if f.h = true ∨ a % 16 > 9 then 0x06 else 0) + (if f.c = true ∨ a > 0x99 then 0x60 else 0)
      ∃ t, exec .daa s = .next t ∧ OnlyAF s t (s.cost .daa) ∧
        (f.n = false → t.main.a.toNat = (a + corr) % 256 ∧ t.main.f.h = decide (a % 16 > 9)) ∧
        (f.n = true →
          (t.main.a.toNat : Int) = ((a : Int) - corr) % 256 ∧ t.main.f.h = (f.h && decide (a % 16 < 6))) ∧
        t.main.f.c = (f.c || decide (a > 0x99)) ∧ t.main.f.n = f.n ∧ t.main.f.s = t.main.a.getLsbD 7 ∧
        t.main.f.z = decide (t.main.a.toNat = 0) ∧ t.main.f.p = evenParity t.main.a ∧
        (s.params.cost = Params.default.cost → t.tStates = s.tStates + 4)

/-- The source's DAA property (S3): for two-digit BCD values, ADD A,n then DAA leaves the BCD code of the sum modulo
100 with C its carry, and SUB n then DAA that of the difference with C its borrow. -/
def Obligations.DaaCorrectsBcdArithmetic : Prop :=
  ∀ (s : State) (n : Byte), IsBcd s.main.a → IsBcd n →
    (∃ t u, exec (.addAN n) s = .next t ∧ exec .daa t = .next u ∧ IsBcd u.main.a ∧
      bcdValue u.main.a + 100 * num u.main.f.c = bcdValue s.main.a + bcdValue n) ∧
      ∃ t u, exec (.subN n) s = .next t ∧ exec .daa t = .next u ∧ IsBcd u.main.a ∧
        (bcdValue u.main.a : Int) = (bcdValue s.main.a : Int) - bcdValue n + 100 * num u.main.f.c

/-- CPL, CCF, SCF, NOP, HALT, DI and IM 0 to 2 (R281, R283 to R287, R291 to R293): what each writes, and that nothing
else changes. -/
def Obligations.ControlInstructionsDoWhatTheyName : Prop :=
  ∀ s : State,
    (∃ t, exec .cpl s = .next t ∧
      OnlyAF s t (s.cost .cpl) ∧ t.main.a.toNat = 255 - s.main.a.toNat ∧ t.main.f.h = true ∧
      t.main.f.n = true ∧ t.main.f.s = s.main.f.s ∧ t.main.f.z = s.main.f.z ∧ t.main.f.p = s.main.f.p ∧
      t.main.f.c = s.main.f.c) ∧
      (∃ t, exec .ccf s = .next t ∧ OnlyF s t (s.cost .ccf) ∧ t.main.f.h = s.main.f.c ∧ t.main.f.c = (!s.main.f.c) ∧
        t.main.f.n = false ∧ t.main.f.s = s.main.f.s ∧ t.main.f.z = s.main.f.z ∧ t.main.f.p = s.main.f.p) ∧
      (∃ t, exec .scf s = .next t ∧
        OnlyF s t (s.cost .scf) ∧ t.main.f.h = false ∧ t.main.f.c = true ∧ t.main.f.n = false ∧
        t.main.f.s = s.main.f.s ∧ t.main.f.z = s.main.f.z ∧ t.main.f.p = s.main.f.p) ∧
      exec .nop s = .next { s with tStates := s.tStates + s.cost .nop } ∧
      exec .halt s = .next { s with halted := true, tStates := s.tStates + s.cost .halt } ∧
      exec .di s = .next { s with iff1 := false, iff2 := false, tStates := s.tStates + s.cost .di } ∧
      exec .im0 s = .next { s with im := .im0, tStates := s.tStates + s.cost .im0 } ∧
      exec .im1 s = .next { s with im := .im1, tStates := s.tStates + s.cost .im1 } ∧
      exec .im2 s = .next { s with im := .im2, tStates := s.tStates + s.cost .im2 }

/-- EI (R289, R445, R546): where nothing is accepted and the CPU runs, EI, the `k` further EI opcodes at PC and the
one instruction after them all execute in this step, with no interrupt between; then both flip-flops are set,
whatever that instruction wrote to them, unless it raised a fault, and the T-states are those of all of them. -/
def Obligations.EiRunsOneMoreInstructionThenEnables : Prop :=
  ∀ (s : State) (k : Nat), k < 65536 → s.nmiPending = false →
    ¬(s.intPending = true ∧ s.im = .im1 ∧ s.iff1 = true) → s.halted = false →
    (∀ m, m < k → (s.skip m).fetchInstr = .ei) → (s.skip k).fetchInstr ≠ .ei →
    let i := (s.skip k).fetchInstr
    ∃ u t,
      exec i { s.skip (k + i.size) with tStates := s.tStates + s.cost .ei * (k + 1) } = .next u ∧
      exec .ei s = .next t ∧ t.r.getLsbD 7 = u.r.getLsbD 7 ∧
      (u.fault = none → t = { u with iff1 := true, iff2 := true, r := t.r, draws := t.draws }) ∧
      (u.fault ≠ none → t = { u with r := t.r, draws := t.draws })

/-- A memory from which nothing but EI is fetched, such as a default `Mem` that holds nothing else (R289, U12): the
step never ends; the model stops it as a stuck machine at the bound of 65,536 (log entry 14). -/
def Obligations.EndlessEiIsAStuckMachine : Prop :=
  (∀ s : State, (∀ m, (s.skip m).fetchInstr = .ei) → s.nmiPending = false →
    ¬(s.intPending = true ∧ s.im = .im1 ∧ s.iff1 = true) → s.halted = false →
    exec .ei s = .fault .eiRunaway) ∧
    ∀ s : State, s.mem.isFlat = true → (∀ x, s.rd x = 0xFB) → ∀ m, (s.skip m).fetchInstr = .ei

/-! ## 16-bit arithmetic (45_alu16.md) -/

/-- The 16-bit adders (R300 to R304) set their register and flags as the rules' arithmetic says; INC and DEC of a
pair, IX and IY (R305 to R310) change that register modulo 65,536 and no flag; nothing else changes. -/
def Obligations.SixteenBitArithmetic : Prop :=
  ∀ s : State,
    (∀ ss, ∃ t, exec (.addHlSs ss) s = .next t ∧ IsAdd16 s.main.hl (s.pair ss) t.main.hl s.main.f t.main.f ∧
      t =
        { s with
          main := { s.main with h := t.main.h, l := t.main.l, f := t.main.f }
          draws := t.draws
          tStates := s.tStates + s.cost (.addHlSs ss) }) ∧
      (∀ ss, ∃ t, exec (.adcHlSs ss) s = .next t ∧
        IsAdc16 s.main.hl (s.pair ss) s.main.f.c t.main.hl t.main.f ∧
        t =
          { s with
            main := { s.main with h := t.main.h, l := t.main.l, f := t.main.f }
            draws := t.draws
            tStates := s.tStates + s.cost (.adcHlSs ss) }) ∧
      (∀ ss, ∃ t, exec (.sbcHlSs ss) s = .next t ∧
        IsSbc16 s.main.hl (s.pair ss) s.main.f.c t.main.hl t.main.f ∧
        t =
          { s with
            main := { s.main with h := t.main.h, l := t.main.l, f := t.main.f }
            draws := t.draws
            tStates := s.tStates + s.cost (.sbcHlSs ss) }) ∧
      (∀ pp, ∃ t, exec (.addIxPp pp) s = .next t ∧
        IsAdd16 s.ix
          (match pp with
          | .bc => s.main.bc
          | .de => s.main.de
          | .ix => s.ix
          | .sp => s.sp)
          t.ix s.main.f t.main.f ∧
        t =
          { s with
            ix := t.ix
            main := { s.main with f := t.main.f }
            draws := t.draws
            tStates := s.tStates + s.cost (.addIxPp pp) }) ∧
      (∀ rr, ∃ t, exec (.addIyRr rr) s = .next t ∧
        IsAdd16 s.iy
          (match rr with
          | .bc => s.main.bc
          | .de => s.main.de
          | .iy => s.iy
          | .sp => s.sp)
          t.iy s.main.f t.main.f ∧
        t =
          { s with
            iy := t.iy
            main := { s.main with f := t.main.f }
            draws := t.draws
            tStates := s.tStates + s.cost (.addIyRr rr) }) ∧
      (∀ ss, ∃ t, exec (.incSs ss) s = .next t ∧ LoadsPair s t ss (s.pair ss + 1) (s.cost (.incSs ss))) ∧
      (∀ ss, ∃ t, exec (.decSs ss) s = .next t ∧ LoadsPair s t ss (s.pair ss - 1) (s.cost (.decSs ss))) ∧
      exec .incIx s = .next { s with ix := s.ix + 1, tStates := s.tStates + s.cost .incIx } ∧
      exec .decIx s = .next { s with ix := s.ix - 1, tStates := s.tStates + s.cost .decIx } ∧
      exec .incIy s = .next { s with iy := s.iy + 1, tStates := s.tStates + s.cost .incIy } ∧
      exec .decIy s = .next { s with iy := s.iy - 1, tStates := s.tStates + s.cost .decIy }

/-! ## Rotates and shifts (46_rotate_shift.md) -/

/-- One rotate or shift in its four operand forms: the operand and the flags as `rot8` says (R358), nothing else
changed. -/
def Sys2Proof.Rules.RotatesBy (k : RotOp) (r : Reg8 → Instr) (hl : Instr) (ix iy : Byte → Instr) : Prop :=
  ∀ s : State,
    (∀ q, ∃ t v, exec (r q) s = .next t ∧ OnlyRegF s t q v (s.cost (r q)) ∧ IsRot8 k (s.r8 q) v s.main.f t.main.f) ∧
      (∃ t v, exec hl s = .next t ∧ OnlyByteF (s.afterRd s.main.hl) t s.main.hl v (s.cost hl) ∧
        IsRot8 k (s.rd s.main.hl) v s.main.f t.main.f) ∧
      (∀ d, ∃ t v, exec (ix d) s = .next t ∧ OnlyByteF (s.afterRd (s.ixd d)) t (s.ixd d) v (s.cost (ix d)) ∧
        IsRot8 k (s.rd (s.ixd d)) v s.main.f t.main.f) ∧
      ∀ d, ∃ t v, exec (iy d) s = .next t ∧ OnlyByteF (s.afterRd (s.iyd d)) t (s.iyd d) v (s.cost (iy d)) ∧
        IsRot8 k (s.rd (s.iyd d)) v s.main.f t.main.f

/-- RLCA, RLA, RRCA and RRA: A and C by the table's row, H and N clear, S, Z and P/V kept (R320 to R323, R358). -/
def Sys2Proof.Rules.RotatesA (k : RotOp) (i : Instr) : Prop :=
  ∀ s : State, ∃ t, exec i s = .next t ∧ OnlyAF s t (s.cost i) ∧
    t.main.a.toNat = (rotResult k s.main.a.toNat s.main.f.c).1 ∧
    t.main.f.c = (rotResult k s.main.a.toNat s.main.f.c).2 ∧ t.main.f.h = false ∧ t.main.f.n = false ∧
    t.main.f.s = s.main.f.s ∧ t.main.f.z = s.main.f.z ∧ t.main.f.p = s.main.f.p

/-- Every rotate and shift follows its row of the `rot8` table (R358), in every operand form; the four accumulator
forms set only H, N and C. -/
def Obligations.RotatesFollowTheRot8Table : Prop :=
  RotatesBy .rlc .rlcR .rlcIndHl .rlcIxd .rlcIyd ∧ RotatesBy .rrc .rrcR .rrcIndHl .rrcIxd .rrcIyd ∧
    RotatesBy .rl .rlR .rlIndHl .rlIxd .rlIyd ∧ RotatesBy .rr .rrR .rrIndHl .rrIxd .rrIyd ∧
    RotatesBy .sla .slaR .slaIndHl .slaIxd .slaIyd ∧ RotatesBy .sra .sraR .sraIndHl .sraIxd .sraIyd ∧
    RotatesBy .sll .sllR .sllIndHl .sllIxd .sllIyd ∧ RotatesBy .srl .srlR .srlIndHl .srlIxd .srlIyd ∧
    RotatesA .rlc .rlca ∧ RotatesA .rl .rla ∧ RotatesA .rrc .rrca ∧ RotatesA .rr .rra

/-- RLD and RRD rotate the three nibbles of A's low half and (HL) (R356, R357): S, Z and parity from the new A, H and
N clear, C kept; only A, F and the byte at HL change. -/
def Obligations.DigitRotatesMoveThreeNibbles : Prop :=
  ∀ s : State,
    let a := s.main.a.toNat
    let m := (s.rd s.main.hl).toNat
    (∃ t v, exec .rld s = .next t ∧ t.main.a.toNat = 16 * (a / 16) + m / 16 ∧
      v.toNat = 16 * (m % 16) + a % 16 ∧ HoldsByte s t s.main.hl v ∧
      t.main.f.s = t.main.a.getLsbD 7 ∧ t.main.f.z = decide (t.main.a.toNat = 0) ∧
      t.main.f.p = evenParity t.main.a ∧ t.main.f.h = false ∧ t.main.f.n = false ∧ t.main.f.c = s.main.f.c ∧
      t =
        { s with
          mem := (s.afterRd s.main.hl).mem.write s.main.hl v
          main := { s.main with a := t.main.a, f := t.main.f }
          draws := t.draws
          tStates := s.tStates + s.cost .rld }) ∧
      ∃ t v, exec .rrd s = .next t ∧ t.main.a.toNat = 16 * (a / 16) + m % 16 ∧
        v.toNat = 16 * (a % 16) + m / 16 ∧ HoldsByte s t s.main.hl v ∧
        t.main.f.s = t.main.a.getLsbD 7 ∧ t.main.f.z = decide (t.main.a.toNat = 0) ∧
        t.main.f.p = evenParity t.main.a ∧ t.main.f.h = false ∧ t.main.f.n = false ∧ t.main.f.c = s.main.f.c ∧
        t =
          { s with
            mem := (s.afterRd s.main.hl).mem.write s.main.hl v
            main := { s.main with a := t.main.a, f := t.main.f }
            draws := t.draws
            tStates := s.tStates + s.cost .rrd }

/-! ## Bit operations (47_bit.md) -/

/-- BIT (R370 to R373): Z is the complement of the tested bit, H set, N clear, C kept; S and P/V are free values, so
nothing is said of them; only F changes. -/
def Obligations.BitTestsOneBit : Prop :=
  ∀ (s : State) (b : BitVec 3),
    (∀ r, ∃ t, exec (.bitBR b r) s = .next t ∧ OnlyF s t (s.cost (.bitBR b r)) ∧
      t.main.f.z = (!(s.r8 r).getLsbD b.toNat) ∧ t.main.f.h = true ∧ t.main.f.n = false ∧ t.main.f.c = s.main.f.c) ∧
      (∃ t, exec (.bitBIndHl b) s = .next t ∧ OnlyF (s.afterRd s.main.hl) t (s.cost (.bitBIndHl b)) ∧
        t.main.f.z = (!(s.rd s.main.hl).getLsbD b.toNat) ∧
        t.main.f.h = true ∧ t.main.f.n = false ∧ t.main.f.c = s.main.f.c) ∧
      (∀ d, ∃ t, exec (.bitBIxd b d) s = .next t ∧ OnlyF (s.afterRd (s.ixd d)) t (s.cost (.bitBIxd b d)) ∧
        t.main.f.z = (!(s.rd (s.ixd d)).getLsbD b.toNat) ∧
        t.main.f.h = true ∧ t.main.f.n = false ∧ t.main.f.c = s.main.f.c) ∧
      ∀ d, ∃ t, exec (.bitBIyd b d) s = .next t ∧ OnlyF (s.afterRd (s.iyd d)) t (s.cost (.bitBIyd b d)) ∧
        t.main.f.z = (!(s.rd (s.iyd d)).getLsbD b.toNat) ∧
        t.main.f.h = true ∧ t.main.f.n = false ∧ t.main.f.c = s.main.f.c

/-- `w` is `v` with bit `b` at `c` and every other bit kept. -/
def Sys2Proof.Rules.WithBit (v : Byte) (b : BitVec 3) (c : Bool) (w : Byte) : Prop :=
  ∀ k, k < 8 → w.getLsbD k = if k = b.toNat then c else v.getLsbD k

/-- SET and RES (R374 to R381) put one bit of the operand to 1 or 0 and keep the other seven; no flag and nothing else
changes. -/
def Obligations.SetAndResWriteOneBit : Prop :=
  ∀ (s : State) (b : BitVec 3),
    (∀ r, ∃ t w, exec (.setBR b r) s = .next t ∧
      LoadsReg s t r w (s.cost (.setBR b r)) ∧ WithBit (s.r8 r) b true w) ∧
      (∀ r, ∃ t w, exec (.resBR b r) s = .next t ∧
        LoadsReg s t r w (s.cost (.resBR b r)) ∧ WithBit (s.r8 r) b false w) ∧
      (∃ t w, exec (.setBIndHl b) s = .next t ∧
        StoresByte (s.afterRd s.main.hl) t s.main.hl w (s.cost (.setBIndHl b)) ∧
        WithBit (s.rd s.main.hl) b true w) ∧
      (∃ t w, exec (.resBIndHl b) s = .next t ∧
        StoresByte (s.afterRd s.main.hl) t s.main.hl w (s.cost (.resBIndHl b)) ∧
        WithBit (s.rd s.main.hl) b false w) ∧
      (∀ d, ∃ t w, exec (.setBIxd b d) s = .next t ∧
        StoresByte (s.afterRd (s.ixd d)) t (s.ixd d) w (s.cost (.setBIxd b d)) ∧
        WithBit (s.rd (s.ixd d)) b true w) ∧
      (∀ d, ∃ t w, exec (.resBIxd b d) s = .next t ∧
        StoresByte (s.afterRd (s.ixd d)) t (s.ixd d) w (s.cost (.resBIxd b d)) ∧
        WithBit (s.rd (s.ixd d)) b false w) ∧
      (∀ d, ∃ t w, exec (.setBIyd b d) s = .next t ∧
        StoresByte (s.afterRd (s.iyd d)) t (s.iyd d) w (s.cost (.setBIyd b d)) ∧
        WithBit (s.rd (s.iyd d)) b true w) ∧
      ∀ d, ∃ t w, exec (.resBIyd b d) s = .next t ∧
        StoresByte (s.afterRd (s.iyd d)) t (s.iyd d) w (s.cost (.resBIyd b d)) ∧
        WithBit (s.rd (s.iyd d)) b false w

/-! ## Jumps, calls and returns (48_jump_call.md) -/

/-- The jumps (R390 to R400): only PC, the T-states and, for DJNZ, B change; relative targets are `trunc16(PC +
sext8(e))` from the PC after the displacement byte. -/
def Obligations.JumpsSetPcOnly : Prop :=
  ∀ s : State,
    (∀ nn, exec (.jpNn nn) s = .next { s with pc := nn, tStates := s.tStates + s.cost (.jpNn nn) }) ∧
      (∀ cc nn, exec (.jpCcNn cc nn) s =
        if s.main.f.cond cc = true then .next { s with pc := nn, tStates := s.tStates + s.cost (.jpCcNn cc nn) }
        else .next { s with tStates := s.tStates + s.costElse (.jpCcNn cc nn) }) ∧
      exec .jpIndHl s = .next { s with pc := s.main.hl, tStates := s.tStates + s.cost .jpIndHl } ∧
      exec .jpIndIx s = .next { s with pc := s.ix, tStates := s.tStates + s.cost .jpIndIx } ∧
      exec .jpIndIy s = .next { s with pc := s.iy, tStates := s.tStates + s.cost .jpIndIy } ∧
      (∀ e, exec (.jrE e) s = .next { s with pc := displaced s.pc e, tStates := s.tStates + s.cost (.jrE e) }) ∧
      (∀ e, exec (.jrNzE e) s =
        if s.main.f.z = false then .next { s with pc := displaced s.pc e, tStates := s.tStates + s.cost (.jrNzE e) }
        else .next { s with tStates := s.tStates + s.costElse (.jrNzE e) }) ∧
      (∀ e, exec (.jrZE e) s =
        if s.main.f.z = true then .next { s with pc := displaced s.pc e, tStates := s.tStates + s.cost (.jrZE e) }
        else .next { s with tStates := s.tStates + s.costElse (.jrZE e) }) ∧
      (∀ e, exec (.jrNcE e) s =
        if s.main.f.c = false then .next { s with pc := displaced s.pc e, tStates := s.tStates + s.cost (.jrNcE e) }
        else .next { s with tStates := s.tStates + s.costElse (.jrNcE e) }) ∧
      (∀ e, exec (.jrCE e) s =
        if s.main.f.c = true then .next { s with pc := displaced s.pc e, tStates := s.tStates + s.cost (.jrCE e) }
        else .next { s with tStates := s.tStates + s.costElse (.jrCE e) }) ∧
      ∀ e, exec (.djnzE e) s =
        if s.main.b ≠ 1 then
          .next
            { s with
              main := { s.main with b := s.main.b - 1 }
              pc := displaced s.pc e
              tStates := s.tStates + s.cost (.djnzE e) }
        else .next { s with main := { s.main with b := s.main.b - 1 }, tStates := s.tStates + s.costElse (.djnzE e) }

/-- Calls, restarts and returns (R408 to R414): a taken call or RST pushes PC and goes to its target; a taken return
pops PC; RETN and RETI also copy IFF2 into IFF1; an untaken one only adds its T-states. -/
def Obligations.CallsPushPcAndReturnsPopIt : Prop :=
  ∀ s : State,
    (∀ nn, ∃ t, exec (.callNn nn) s = .next t ∧ Pushes s t s.pc nn (s.cost (.callNn nn))) ∧
      (∀ cc nn, ∃ t, exec (.callCcNn cc nn) s = .next t ∧
        if s.main.f.cond cc = true then Pushes s t s.pc nn (s.cost (.callCcNn cc nn))
        else t = { s with tStates := s.tStates + s.costElse (.callCcNn cc nn) }) ∧
      (∀ k : BitVec 3, ∃ t, exec (.rstP k) s = .next t ∧
        Pushes s t s.pc (BitVec.ofNat 16 (8 * k.toNat)) (s.cost (.rstP k))) ∧
      exec .ret s =
        .next
          { s.afterRd16 s.sp with
            pc := wordAt s s.sp
            sp := s.sp + 2
            tStates := s.tStates + s.cost .ret } ∧
      (∀ cc, exec (.retCc cc) s =
        if s.main.f.cond cc = true then
          .next
            { s.afterRd16 s.sp with
              pc := wordAt s s.sp
              sp := s.sp + 2
              tStates := s.tStates + s.cost (.retCc cc) }
        else .next { s with tStates := s.tStates + s.costElse (.retCc cc) }) ∧
      exec .retn s =
        .next
          { s.afterRd16 s.sp with
            pc := wordAt s s.sp
            sp := s.sp + 2
            iff1 := s.iff2
            tStates := s.tStates + s.cost .retn } ∧
      exec .reti s =
        .next
          { s.afterRd16 s.sp with
            pc := wordAt s s.sp
            sp := s.sp + 2
            iff1 := s.iff2
            tStates := s.tStates + s.cost .reti }

/-- With the default `Mem` a handler or routine that returns at once returns to where it was entered (R455, R456,
R413): RETN after NMI entry restores PC and SP and puts IFF2 into IFF1; RETI after maskable entry restores PC and SP
with interrupts still disabled; RET after CALL goes on after the call. -/
def Obligations.ReturnsComeBackToTheInterruptedPc : Prop :=
  (∀ s : State, s.mem.isFlat = true → s.nmiPending = true →
    ∃ t u, cpuStep s = .next t ∧ exec .retn t = .next u ∧ u.pc = s.pc ∧ u.sp = s.sp ∧ u.iff1 = s.iff2 ∧
      u.iff2 = s.iff2 ∧ u.main = s.main ∧ u.halted = false) ∧
    (∀ s : State, s.mem.isFlat = true → s.nmiPending = false → s.intPending = true → s.im = .im1 →
      s.iff1 = true →
      ∃ t u, cpuStep s = .next t ∧ exec .reti t = .next u ∧ u.pc = s.pc ∧ u.sp = s.sp ∧ u.iff1 = false ∧
        u.iff2 = false ∧ u.main = s.main ∧ u.halted = false) ∧
    ∀ (s : State) (nn : Word), s.mem.isFlat = true →
      ∃ t u, exec (.callNn nn) s = .next t ∧ t.pc = nn ∧ exec .ret t = .next u ∧ u.pc = s.pc ∧ u.sp = s.sp

/-! ## Input and output (49_io.md) -/

/-- IN and OUT on a registered port (R420, R421, R426, R427; R485, R488 for what the VDP's ports answer): the byte
read goes to the register, S, Z and parity come from it for IN r,(C) only, C is kept; nothing else but what the port
operation changes. The VDP's data port is even and its control port the next (R66, R489); that they are 0xBE and 0xBF
by default, and that another registered port answers a free value and takes a byte without effect, is the model's (log
entry 12). -/
def Obligations.InAndOutTransferOneByte : Prop :=
  (∀ s : State,
    (∀ n v u, portIn s n = some (v, u) →
      exec (.inAPortN n) s =
        .next { u with main := { s.main with a := v }, tStates := s.tStates + s.cost (.inAPortN n) }) ∧
      (∀ r v u, portIn s s.main.c = some (v, u) →
        ∃ t, exec (.inRPortC r) s = .next t ∧ t.r8 r = v ∧ (∀ q, q ≠ r → t.r8 q = s.r8 q) ∧
          t.main.f.s = v.getLsbD 7 ∧ t.main.f.z = decide (v.toNat = 0) ∧ t.main.f.p = evenParity v ∧
          t.main.f.h = false ∧ t.main.f.n = false ∧ t.main.f.c = s.main.f.c ∧
          t = { u with main := t.main, draws := t.draws, tStates := s.tStates + s.cost (.inRPortC r) }) ∧
      (∀ n u, portOut s n s.main.a = some u →
        exec (.outPortNA n) s = .next { u with tStates := s.tStates + s.cost (.outPortNA n) }) ∧
      ∀ r u, portOut s s.main.c (s.r8 r) = some u →
        exec (.outPortCR r) s = .next { u with tStates := s.tStates + s.cost (.outPortCR r) }) ∧
    (∀ p : Params, p.dataPort.getLsbD 0 = false ∧ p.ctrlPort = p.dataPort + 1) ∧
    Params.default.dataPort = 0xBE ∧ Params.default.readPorts = [] ∧ Params.default.writePorts = []

/-- Block input and output on a registered port (R422 to R425, R428 to R431, R196): one byte between (HL) and the
port, B down, HL up or down, Z from B, N set, C kept; S, H and P/V are free values, so nothing is said of them; the
repeating forms go back while B is not zero. The parameter `Ports` has the model's form (log entry 12). -/
def Obligations.BlockIoTransfersOneByteAStep : Prop :=
  (∀ (s u : State) (i : Instr) (by_ : Word) (repeats : Bool) (v : Byte),
    (i, by_, repeats) ∈
      [(Instr.ini, 1, false), (Instr.ind, 0xFFFF, false), (Instr.inir, 1, true), (Instr.indr, 0xFFFF, true)] →
    portIn s s.main.c = some (v, u) →
    ∃ t, exec i s = .next t ∧ HoldsByte s t s.main.hl v ∧
      t.main.b = s.main.b - 1 ∧ t.main.hl = s.main.hl + by_ ∧ t.main.f.z = decide (s.main.b = 1) ∧
      t.main.f.n = true ∧ t.main.f.c = s.main.f.c ∧
      t =
        { u with
          mem := s.mem.write s.main.hl v
          main := { s.main with b := t.main.b, h := t.main.h, l := t.main.l, f := t.main.f }
          draws := t.draws
          pc := if repeats = true ∧ s.main.b ≠ 1 then s.pc - 2 else s.pc
          tStates := s.tStates + if repeats = true ∧ s.main.b = 1 then s.costElse i else s.cost i }) ∧
    ∀ (s u : State) (i : Instr) (by_ : Word) (repeats : Bool),
      (i, by_, repeats) ∈
        [(Instr.outi, 1, false), (Instr.outd, 0xFFFF, false), (Instr.otir, 1, true), (Instr.otdr, 0xFFFF, true)] →
      portOut (s.afterRd s.main.hl) s.main.c (s.rd s.main.hl) = some u →
      ∃ t, exec i s = .next t ∧ t.main.b = s.main.b - 1 ∧ t.main.hl = s.main.hl + by_ ∧
        t.main.f.z = decide (s.main.b = 1) ∧ t.main.f.n = true ∧ t.main.f.c = s.main.f.c ∧
        t =
          { u with
            main := { s.main with b := t.main.b, h := t.main.h, l := t.main.l, f := t.main.f }
            draws := t.draws
            pc := if repeats = true ∧ s.main.b ≠ 1 then s.pc - 2 else s.pc
            tStates := s.tStates + if repeats = true ∧ s.main.b = 1 then s.costElse i else s.cost i }

/-- A port operation on an unregistered port (R451): the machine holds InvalidPort with the low port byte, and only
what came before the operation has happened: the read of (HL) and B counted down for OUTI, OUTD, OTIR and OTDR,
nothing for the others. By default every port but 0xBE and 0xBF is unregistered. The parameter `Ports` has the model's
form (log entry 12), and that the fault is held in a next state is the model's too (log entry 13). -/
def Obligations.UnregisteredPortRaisesInvalidPort : Prop :=
  (∀ (s : State) (i : Instr) (lo : Byte) (more : List Byte) (counted : Bool),
    portOf s i = some (lo, more, counted) → registered s lo more = false →
    exec i s =
      .next
        { s with
          mem := readAll s.mem (readsOf s i)
          main := if counted = true then { s.main with b := s.main.b - 1 } else s.main
          fault := some (.invalidPort lo) }) ∧
    ∀ (s : State) (i : Instr) (lo : Byte) (more : List Byte) (counted : Bool), s.params = Params.default →
      portOf s i = some (lo, more, counted) → (registered s lo more = true ↔ lo = 0xBE#8 ∨ lo = 0xBF#8)

/-- The class rows (R97, R98, R92, R450): an unknown key leaves everything but the fault, which carries the key as R92
packs it; a discarded prefix only moves PC back by one; among the second and fourth bytes 198 ED, 46 DD, 46 FD, 224
DDCB and 224 FDCB keys are unknown and 170 DD and 170 FD keys discard, by the default `DiscardSet`, which leaves the
decoder's classes as they are; under another set (log entry 20) a DD or FD key without an instruction discards exactly
when it is in the set. That an unknown key answers a next state which holds the fault is the model's (log entry 13).
-/
def Obligations.UnknownKeysRaiseAndPrefixesAreDiscarded : Prop :=
  (∀ (s : State) (d op : Byte),
    exec (.unknownEd op) s = .next { s with fault := some (.unknownOpcode (.ed op)) } ∧
      exec (.unknownHalfIndexDd op) s = .next { s with fault := some (.unknownOpcode (.dd op)) } ∧
      exec (.unknownHalfIndexFd op) s = .next { s with fault := some (.unknownOpcode (.fd op)) } ∧
      exec (.unknownDdcb d op) s = .next { s with fault := some (.unknownOpcode (.ddcb d op)) } ∧
      exec (.unknownFdcb d op) s = .next { s with fault := some (.unknownOpcode (.fdcb d op)) } ∧
      exec (.discardedPrefixDd op) s = .next { s with pc := s.pc - 1 } ∧
      exec (.discardedPrefixFd op) s = .next { s with pc := s.pc - 1 }) ∧
    (∀ d op : Byte,
      (Key.ed op).bits.toNat = 0xED00 + op.toNat ∧ (Key.dd op).bits.toNat = 0xDD00 + op.toNat ∧
        (Key.fd op).bits.toNat = 0xFD00 + op.toNat ∧
        (Key.ddcb d op).bits.toNat = 0xDDCB0000 + 256 * d.toNat + op.toNat ∧
        (Key.fdcb d op).bits.toNat = 0xFDCB0000 + 256 * d.toNat + op.toNat) ∧
    ((List.range 256).countP fun k => decode4 0xED (BitVec.ofNat 8 k) 0 0 == .unknownEd (BitVec.ofNat 8 k)) = 198 ∧
    ((List.range 256).countP fun k =>
        decode4 0xDD (BitVec.ofNat 8 k) 0 0 == .unknownHalfIndexDd (BitVec.ofNat 8 k)) = 46 ∧
    ((List.range 256).countP fun k =>
        decode4 0xFD (BitVec.ofNat 8 k) 0 0 == .unknownHalfIndexFd (BitVec.ofNat 8 k)) = 46 ∧
    ((List.range 256).countP fun k =>
        decode4 0xDD (BitVec.ofNat 8 k) 0 0 == .discardedPrefixDd (BitVec.ofNat 8 k)) = 170 ∧
    ((List.range 256).countP fun k =>
        decode4 0xFD (BitVec.ofNat 8 k) 0 0 == .discardedPrefixFd (BitVec.ofNat 8 k)) = 170 ∧
    ((List.range 256).countP fun k =>
        decode4 0xDD 0xCB 0 (BitVec.ofNat 8 k) == .unknownDdcb 0 (BitVec.ofNat 8 k)) = 224 ∧
    ((List.range 256).countP fun k =>
        decode4 0xFD 0xCB 0 (BitVec.ofNat 8 k) == .unknownFdcb 0 (BitVec.ofNat 8 k)) = 224 ∧
    (∀ i : Instr, i.WellFormed → Params.default.classify i = i) ∧
    ∀ (p : Params) (op : Byte),
      let dd := if p.discards op then Instr.discardedPrefixDd op else .unknownHalfIndexDd op
      let fd := if p.discards op then Instr.discardedPrefixFd op else .unknownHalfIndexFd op
      p.classify (.discardedPrefixDd op) = dd ∧ p.classify (.unknownHalfIndexDd op) = dd ∧
        p.classify (.discardedPrefixFd op) = fd ∧ p.classify (.unknownHalfIndexFd op) = fd

/-! ## The VDP (61_vdp.md) -/

/-- The VDP's port writes (R484, R486, R487, R481): the first control byte sets the low eight bits of `addr` and the
latch; the second sets the high six and the code, code 0 pre-fetching and code 2 writing a register; a data write goes
to CRAM at code 3, else to VRAM, mirrors into the read buffer and moves `addr` on modulo 0x4000; and two control
writes x, 0x80 + k put x into VR[k]. -/
def Obligations.VdpPortWrites : Prop :=
  (∀ (v : Vdp) (b : Byte), v.latch = false →
    v.writeControl b =
      { v with addr := BitVec.ofNat 14 (v.addr.toNat / 256 * 256 + b.toNat), latch := true }) ∧
    (∀ (v : Vdp) (b : Byte), v.latch = true →
      let a := b.toNat % 64 * 256 + v.addr.toNat % 256
      let w := v.writeControl b
      w.latch = false ∧ w.code.toNat = b.toNat / 64 ∧
        (b.toNat / 64 = 0 →
          w =
            { v with
              latch := false
              code := w.code
              readbuf := Vram.read v.vram (BitVec.ofNat 14 a)
              addr := BitVec.ofNat 14 (a + 1) }) ∧
        (b.toNat / 64 = 2 →
          (∀ k : Fin 16, (w.vr[k]).toNat = if k.val = b.toNat % 16 then v.addr.toNat % 256 else (v.vr[k]).toNat) ∧
            w = { v with latch := false, code := w.code, addr := BitVec.ofNat 14 a, vr := w.vr }) ∧
        (b.toNat / 64 = 1 ∨ b.toNat / 64 = 3 →
          w = { v with latch := false, code := w.code, addr := BitVec.ofNat 14 a })) ∧
    (∀ (v : Vdp) (b : Byte),
      let w := v.writeData b
      (v.code = 3 →
        w.vram = v.vram ∧ ∀ k : Fin 32, w.cram[k] = if k.val = v.addr.toNat % 32 then b else v.cram[k]) ∧
        (v.code ≠ 3 →
          w.cram = v.cram ∧ ∀ x, Vram.read w.vram x = if x = v.addr then b else Vram.read v.vram x) ∧
        w =
          { v with
            latch := false
            readbuf := b
            addr := BitVec.ofNat 14 (v.addr.toNat + 1)
            vram := w.vram
            cram := w.cram }) ∧
    ∀ (v : Vdp) (x : Byte) (k : Fin 16), v.latch = false →
      (((v.writeControl x).writeControl (BitVec.ofNat 8 (0x80 + k.val))).vr[k]) = x

/-- The vertical counter (R498, S5): a scanline moves it from 0xDA to 0xD5 when the jump is armed and to the next
value modulo 256 otherwise, the jump disarming it and 0 re-arming it; over a frame, from 0 with the jump armed, after
`k` scanlines it shows `k` up to 0xDA, then 0xD5 to 0xFF, and 0 again after 262, with the jump re-armed. -/
def Obligations.VerticalCounterTakes262LinesAFrame : Prop :=
  (∀ (v : Vdp) (render : Bool),
    let w := v.scanline render
    let jumps := v.vcount.toNat = 0xDA ∧ v.vjump = false
    w.vcount.toNat = (if jumps then 0xD5 else (v.vcount.toNat + 1) % 256) ∧
      w.vjump = (if jumps then true else if v.vcount.toNat = 0xFF then false else v.vjump)) ∧
    ∀ (v : Vdp) (render : Bool), v.vcount = 0 → v.vjump = false →
      (∀ k, k ≤ 218 → (Vdp.scanlines render k v).vcount.toNat = k) ∧
        (∀ k, 219 ≤ k → k ≤ 261 → (Vdp.scanlines render k v).vcount.toNat = k - 6) ∧
        (Vdp.scanlines render 262 v).vcount = 0 ∧ (Vdp.scanlines render 262 v).vjump = false

/-- `Tick` (R497): below 342 it only adds to `hcount`; at 342 or more it takes 342 off and does one scanline, and goes
on; so it keeps `hcount` below 342, does one scanline for each 342 cycles, and ticks add up: two in a row are one of
the sum; a tick of no cycles changes nothing. -/
def Obligations.TicksAddUp : Prop :=
  ∀ (v : Vdp) (render : Bool), v.hcount.toNat < 342 →
    v.tick 0 render = v ∧
      (∀ a, v.hcount.toNat + a < 342 →
        v.tick a render = { v with hcount := BitVec.ofNat 9 (v.hcount.toNat + a) }) ∧
      (∀ a, 342 ≤ v.hcount.toNat + a →
        v.tick a render =
          (({ v with hcount := 0 } : Vdp).scanline render).tick (v.hcount.toNat + a - 342) render) ∧
      (∀ a b : Nat, (v.tick a render).tick b render = v.tick (a + b) render) ∧
      (∀ a : Nat, (v.tick a render).hcount.toNat = (v.hcount.toNat + a) % 342) ∧
      ∀ n : Nat, v.tick (342 * n) render = { Vdp.scanlines render n v with hcount := v.hcount }

/-- The interrupts of a scanline (R499, R502, R503, R501), on the new value of `vcount`: the line counter counts down
on active lines and reloads from VR[10] on underflow and on every other line; the request rises on an enabled
underflow and, with status bit 7, at 0xC1; it never falls here, and VR[1] bit 5 gates nothing. -/
def Obligations.ScanlineRaisesLineAndFrameInterrupts : Prop :=
  ∀ (v : Vdp) (render : Bool),
    let w := v.scanline render
    let y := w.vcount.toNat
    w.linecnt = (if y < 192 ∧ v.linecnt ≠ 0 then v.linecnt - 1 else v.vr[10]) ∧
      w.irqPending =
        (v.irqPending || (decide (y < 192 ∧ v.linecnt = 0) && (v.vr[0]).getLsbD 4) || decide (y = 0xC1)) ∧
      w.status.getLsbD 7 = (v.status.getLsbD 7 || decide (y = 0xC1)) ∧
      w.vcount = v.advanceV.vcount ∧ w.vjump = v.advanceV.vjump

/-- What a scanline draws (R499, R500, R504, R509): only the row of the new `vcount`, 256 pixels, and only on an
active line with the display shown (`VR[1]` bit 6 not `BLANK_WHEN`, which is 0 by default) and rendering asked for;
status bits 5 and 6 can rise only there; the memories, the registers, the port state and `hcount` stay. -/
def Obligations.ScanlineDrawsOnlyItsOwnRow : Prop :=
  Screen.default.blankWhen = false ∧ ∀ (v : Vdp) (render : Bool),
    let w := v.scanline render
    let y := w.vcount.toNat
    let drawn := y < 192 ∧ (v.vr[1]).getLsbD 6 ≠ v.screen.blankWhen ∧ render = true
    (∀ x, x ≠ y → Fb.row w.fb x = Fb.row v.fb x) ∧
      (drawn → (Fb.row w.fb y).length = 256) ∧
      (¬drawn → w.fb = v.fb ∧ w.status.getLsbD 5 = v.status.getLsbD 5 ∧ w.status.getLsbD 6 = v.status.getLsbD 6) ∧
      (∀ k, v.status.getLsbD k = true → w.status.getLsbD k = true) ∧
      (∀ k, k < 5 → w.status.getLsbD k = v.status.getLsbD k) ∧
      w =
        { v with
          status := w.status
          irqPending := w.irqPending
          vcount := w.vcount
          vjump := w.vjump
          linecnt := w.linecnt
          fb := w.fb }

/-- The source's solid-tile property (S6, R510, R505, R507, R508): a pattern whose every row is four plane bytes all
0x00 or 0xFF paints every pixel that names it, is not left-masked and not under a sprite pixel, with the one CRAM
colour of its index and palette; a sprite pixel there stays unless the tile has priority and a non-zero index; each
colour channel is 85 times its two-bit level. The column comes from `HScroll`, by default `(x - VR[8]) mod 256`. -/
def Obligations.SolidTilesPaintOneColour : Prop :=
  (∀ (v : Vdp) (y x : Nat) (c0 c1 c2 c3 : Bool) (under : Option Rgb),
    let u := v.screen.hScroll.column x v.vr[8]
    let w := v.nameEntry (v.ntBase + ((y + (v.vr[9]).toNat) % 224 / 8 * 32 + u / 8) * 2)
    let t := w.toNat % 512
    let index := num c0 + 2 * num c1 + 4 * num c2 + 8 * num c3
    let paint := colour (v.cramAt (index + 16 * num (w.getLsbD 11)))
    ¬((v.vr[0]).getLsbD 5 = true ∧ x < 8) →
    (∀ r, r < 8 →
      v.vramAt (t * 32 + r * 4) = (if c0 then 0xFF else 0x00) ∧
        v.vramAt (t * 32 + r * 4 + 1) = (if c1 then 0xFF else 0x00) ∧
        v.vramAt (t * 32 + r * 4 + 2) = (if c2 then 0xFF else 0x00) ∧
        v.vramAt (t * 32 + r * 4 + 3) = (if c3 then 0xFF else 0x00)) →
    v.backgroundPixel y x none = paint ∧
      ∀ sprite, under = some sprite →
        v.backgroundPixel y x under = if w.getLsbD 12 = true ∧ index ≠ 0 then paint else sprite) ∧
    (∀ b : Byte,
      (colour b).r.toNat = 85 * (b.toNat % 4) ∧ (colour b).g.toNat = 85 * (b.toNat / 4 % 4) ∧
        (colour b).b.toNat = 85 * (b.toNat / 16 % 4)) ∧
    Screen.default.hScroll = .wrap ∧
    ∀ (x : Nat) (r8 : Byte), (HScroll.wrap.column x r8 : Int) = ((x : Int) - r8.toNat) % 256
end

