-- ==== Sys2Proof/Laws/Flags.lean ====
section
/-! SUPPORT. One lemma per flag computation and adder: its value as plain arithmetic. -/

namespace Sys2Proof.Machine

/-! ### Bits and bytes -/

theorem bit_le_one (c : Bool) : bit c ≤ 1 := by cases c <;> decide

theorem msb_byte (v : Byte) : v.msb = v.getLsbD 7 := BitVec.msb_eq_getLsbD_last v

theorem msb_word (v : Word) : v.msb = v.getLsbD 15 := BitVec.msb_eq_getLsbD_last v

theorem beq_zero_byte (v : Byte) : (v == 0) = decide (v.toNat = 0) := by
  revert v
  decide

theorem beq_zero_word (v : Word) : (v == 0) = decide (v.toNat = 0) := by
  by_cases h : v = 0
  · subst h
    rfl
  · have hn : v.toNat ≠ 0 := fun e => h (BitVec.eq_of_toNat_eq e)
    simp only [hn, decide_false]
    exact beq_eq_false_iff_ne.mpr h

/-- A byte counted down is not zero exactly when it was not one. -/
theorem sub_one_bne_zero_byte (v : Byte) : (v - 1 != 0) = decide (v ≠ 1) := by
  revert v
  decide

/-- A word counted down is not zero exactly when it was not one. -/
theorem sub_one_bne_zero_word (v : Word) : (v - 1 != 0) = decide (v ≠ 1) := by
  by_cases h : v = 1
  · subst h
    rfl
  · have hn : v - 1 ≠ 0 := by bv_omega
    simp only [ne_eq, h, not_false_eq_true, decide_true]
    exact bne_iff_ne.mpr hn

/-- A difference of bytes is not zero exactly when they differ. -/
theorem sub_bne_zero_byte (a b : Byte) : (a - b != 0) = decide (a ≠ b) := by
  by_cases h : a = b
  · subst h
    simp
  · have hn : a - b ≠ 0 := by bv_omega
    simp only [ne_eq, h, not_false_eq_true, decide_true]
    exact bne_iff_ne.mpr hn

/-! ### The 8-bit adders (R17, R250) -/

theorem add8_toNat (a b : Byte) (c : Bool) : (add8 a b c).toNat = (a.toNat + b.toNat + bit c) % 256 :=
  BitVec.toNat_ofNat ..

theorem sub8_toNat (a b : Byte) (c : Bool) :
    ((sub8 a b c).toNat : Int) = ((a.toNat : Int) - b.toNat - bit c) % 256 := by
  have hc := bit_le_one c
  have ha := a.isLt
  have hb := b.isLt
  simp only [sub8, BitVec.toNat_sub, BitVec.toNat_ofNat]
  omega

/-- Subtraction undoes addition. -/
theorem sub8_add8 (a b : Byte) : sub8 (add8 a b false) b false = a := by
  apply BitVec.eq_of_toNat_eq
  have ha := a.isLt
  have h := sub8_toNat (add8 a b false) b false
  rw [add8_toNat] at h
  simp only [bit, Bool.false_eq_true, if_false] at h
  omega

theorem inc8_toNat (v : Byte) : (inc8 v).toNat = (v.toNat + 1) % 256 := by simp [inc8]

theorem dec8_toNat (v : Byte) : ((dec8 v).toNat : Int) = ((v.toNat : Int) - 1) % 256 := by
  revert v
  decide

/-! ### The 16-bit adders (R300 to R302) -/

theorem add16_toNat (a b : Word) (c : Bool) : (add16 a b c).toNat = (a.toNat + b.toNat + bit c) % 65536 :=
  BitVec.toNat_ofNat ..

theorem sub16_toNat (a b : Word) (c : Bool) :
    ((sub16 a b c).toNat : Int) = ((a.toNat : Int) - b.toNat - bit c) % 65536 := by
  have hc := bit_le_one c
  have ha := a.isLt
  have hb := b.isLt
  simp only [sub16, BitVec.toNat_sub, BitVec.toNat_ofNat]
  omega

/-! ### DAA (R280) -/

theorem daaCorrection_toNat (a : Byte) (f : Flags) :
    (daaCorrection a f).toNat =
      (if f.h = true ∨ a.toNat % 16 > 9 then 6 else 0) + (if f.c = true ∨ a.toNat > 0x99 then 0x60 else 0) := by
  simp only [daaCorrection, Bool.or_eq_true, decide_eq_true_eq]
  split <;> split <;> rfl

theorem daa_toNat (a : Byte) (f : Flags) :
    (daa a f).toNat =
      if f.n then (a.toNat + 256 - (daaCorrection a f).toNat) % 256
      else (a.toNat + (daaCorrection a f).toNat) % 256 := by
  unfold daa
  split
  · have h := (daaCorrection a f).isLt
    simp only [BitVec.toNat_sub]
    omega
  · simp [BitVec.toNat_add]

/-! ### Rotates and shifts (R358) -/

/-- The table of `rot8` as arithmetic on the byte's value. -/
theorem rot8_toNat (k : RotOp) (v : Byte) (c : Bool) :
    (rot8 k v c).toNat =
      match k with
      | .rlc => 2 * v.toNat % 256 + v.toNat / 128
      | .rrc => v.toNat / 2 + 128 * (v.toNat % 2)
      | .rl => 2 * v.toNat % 256 + bit c
      | .rr => v.toNat / 2 + 128 * bit c
      | .sla => 2 * v.toNat % 256
      | .sra => v.toNat / 2 + 128 * (v.toNat / 128)
      | .sll => 2 * v.toNat % 256 + 1
      | .srl => v.toNat / 2 := by
  cases k <;> cases c <;> revert v <;> decide

theorem rot8Carry_eq (k : RotOp) (v : Byte) :
    rot8Carry k v =
      match k with
      | .rlc | .rl | .sla | .sll => decide (v.toNat ≥ 128)
      | .rrc | .rr | .sra | .srl => decide (v.toNat % 2 = 1) := by
  cases k <;> revert v <;> decide

/-! ### Writing F (R15, R31) -/

/-- Writing flags changes F and the draw counter only; its named bits are those written. -/
theorem State.writeFlags_eq (s : State) (f : Flags) :
    s.writeFlags f =
      { s with main := { s.main with f := (s.writeFlags f).main.f }, draws := s.draws + 1 } := rfl

end Sys2Proof.Machine
end

