-- ==== Sys2Proof/Laws/State.lean ====
section
/-! SUPPORT. What each update of State does to each field: one lemma per field per update, true by rfl. -/

namespace Sys2Proof.Machine

section setPc

variable (s : State) (v : Word)

@[simp] theorem State.setPc_main : (s.setPc v).main = s.main := rfl
@[simp] theorem State.setPc_shadow : (s.setPc v).shadow = s.shadow := rfl
@[simp] theorem State.setPc_ix : (s.setPc v).ix = s.ix := rfl
@[simp] theorem State.setPc_iy : (s.setPc v).iy = s.iy := rfl
@[simp] theorem State.setPc_sp : (s.setPc v).sp = s.sp := rfl
@[simp] theorem State.setPc_pc : (s.setPc v).pc = v := rfl
@[simp] theorem State.setPc_i : (s.setPc v).i = s.i := rfl
@[simp] theorem State.setPc_r : (s.setPc v).r = s.r := rfl
@[simp] theorem State.setPc_iff1 : (s.setPc v).iff1 = s.iff1 := rfl
@[simp] theorem State.setPc_iff2 : (s.setPc v).iff2 = s.iff2 := rfl
@[simp] theorem State.setPc_im : (s.setPc v).im = s.im := rfl
@[simp] theorem State.setPc_halted : (s.setPc v).halted = s.halted := rfl
@[simp] theorem State.setPc_nmiPending : (s.setPc v).nmiPending = s.nmiPending := rfl
@[simp] theorem State.setPc_intPending : (s.setPc v).intPending = s.intPending := rfl
@[simp] theorem State.setPc_tStates : (s.setPc v).tStates = s.tStates := rfl
@[simp] theorem State.setPc_fault : (s.setPc v).fault = s.fault := rfl
@[simp] theorem State.setPc_mem : (s.setPc v).mem = s.mem := rfl
@[simp] theorem State.setPc_vdp : (s.setPc v).vdp = s.vdp := rfl
@[simp] theorem State.setPc_acc : (s.setPc v).acc = s.acc := rfl
@[simp] theorem State.setPc_inputs : (s.setPc v).inputs = s.inputs := rfl
@[simp] theorem State.setPc_draws : (s.setPc v).draws = s.draws := rfl
@[simp] theorem State.setPc_params : (s.setPc v).params = s.params := rfl
@[simp] theorem State.setPc_resetState : (s.setPc v).resetState = s.resetState := rfl

end setPc

section setSp

variable (s : State) (v : Word)

@[simp] theorem State.setSp_main : (s.setSp v).main = s.main := rfl
@[simp] theorem State.setSp_shadow : (s.setSp v).shadow = s.shadow := rfl
@[simp] theorem State.setSp_ix : (s.setSp v).ix = s.ix := rfl
@[simp] theorem State.setSp_iy : (s.setSp v).iy = s.iy := rfl
@[simp] theorem State.setSp_sp : (s.setSp v).sp = v := rfl
@[simp] theorem State.setSp_pc : (s.setSp v).pc = s.pc := rfl
@[simp] theorem State.setSp_i : (s.setSp v).i = s.i := rfl
@[simp] theorem State.setSp_r : (s.setSp v).r = s.r := rfl
@[simp] theorem State.setSp_iff1 : (s.setSp v).iff1 = s.iff1 := rfl
@[simp] theorem State.setSp_iff2 : (s.setSp v).iff2 = s.iff2 := rfl
@[simp] theorem State.setSp_im : (s.setSp v).im = s.im := rfl
@[simp] theorem State.setSp_halted : (s.setSp v).halted = s.halted := rfl
@[simp] theorem State.setSp_nmiPending : (s.setSp v).nmiPending = s.nmiPending := rfl
@[simp] theorem State.setSp_intPending : (s.setSp v).intPending = s.intPending := rfl
@[simp] theorem State.setSp_tStates : (s.setSp v).tStates = s.tStates := rfl
@[simp] theorem State.setSp_fault : (s.setSp v).fault = s.fault := rfl
@[simp] theorem State.setSp_mem : (s.setSp v).mem = s.mem := rfl
@[simp] theorem State.setSp_vdp : (s.setSp v).vdp = s.vdp := rfl
@[simp] theorem State.setSp_acc : (s.setSp v).acc = s.acc := rfl
@[simp] theorem State.setSp_inputs : (s.setSp v).inputs = s.inputs := rfl
@[simp] theorem State.setSp_draws : (s.setSp v).draws = s.draws := rfl
@[simp] theorem State.setSp_params : (s.setSp v).params = s.params := rfl
@[simp] theorem State.setSp_resetState : (s.setSp v).resetState = s.resetState := rfl

end setSp

section setIx

variable (s : State) (v : Word)

@[simp] theorem State.setIx_main : (s.setIx v).main = s.main := rfl
@[simp] theorem State.setIx_shadow : (s.setIx v).shadow = s.shadow := rfl
@[simp] theorem State.setIx_ix : (s.setIx v).ix = v := rfl
@[simp] theorem State.setIx_iy : (s.setIx v).iy = s.iy := rfl
@[simp] theorem State.setIx_sp : (s.setIx v).sp = s.sp := rfl
@[simp] theorem State.setIx_pc : (s.setIx v).pc = s.pc := rfl
@[simp] theorem State.setIx_i : (s.setIx v).i = s.i := rfl
@[simp] theorem State.setIx_r : (s.setIx v).r = s.r := rfl
@[simp] theorem State.setIx_iff1 : (s.setIx v).iff1 = s.iff1 := rfl
@[simp] theorem State.setIx_iff2 : (s.setIx v).iff2 = s.iff2 := rfl
@[simp] theorem State.setIx_im : (s.setIx v).im = s.im := rfl
@[simp] theorem State.setIx_halted : (s.setIx v).halted = s.halted := rfl
@[simp] theorem State.setIx_nmiPending : (s.setIx v).nmiPending = s.nmiPending := rfl
@[simp] theorem State.setIx_intPending : (s.setIx v).intPending = s.intPending := rfl
@[simp] theorem State.setIx_tStates : (s.setIx v).tStates = s.tStates := rfl
@[simp] theorem State.setIx_fault : (s.setIx v).fault = s.fault := rfl
@[simp] theorem State.setIx_mem : (s.setIx v).mem = s.mem := rfl
@[simp] theorem State.setIx_vdp : (s.setIx v).vdp = s.vdp := rfl
@[simp] theorem State.setIx_acc : (s.setIx v).acc = s.acc := rfl
@[simp] theorem State.setIx_inputs : (s.setIx v).inputs = s.inputs := rfl
@[simp] theorem State.setIx_draws : (s.setIx v).draws = s.draws := rfl
@[simp] theorem State.setIx_params : (s.setIx v).params = s.params := rfl
@[simp] theorem State.setIx_resetState : (s.setIx v).resetState = s.resetState := rfl

end setIx

section setIy

variable (s : State) (v : Word)

@[simp] theorem State.setIy_main : (s.setIy v).main = s.main := rfl
@[simp] theorem State.setIy_shadow : (s.setIy v).shadow = s.shadow := rfl
@[simp] theorem State.setIy_ix : (s.setIy v).ix = s.ix := rfl
@[simp] theorem State.setIy_iy : (s.setIy v).iy = v := rfl
@[simp] theorem State.setIy_sp : (s.setIy v).sp = s.sp := rfl
@[simp] theorem State.setIy_pc : (s.setIy v).pc = s.pc := rfl
@[simp] theorem State.setIy_i : (s.setIy v).i = s.i := rfl
@[simp] theorem State.setIy_r : (s.setIy v).r = s.r := rfl
@[simp] theorem State.setIy_iff1 : (s.setIy v).iff1 = s.iff1 := rfl
@[simp] theorem State.setIy_iff2 : (s.setIy v).iff2 = s.iff2 := rfl
@[simp] theorem State.setIy_im : (s.setIy v).im = s.im := rfl
@[simp] theorem State.setIy_halted : (s.setIy v).halted = s.halted := rfl
@[simp] theorem State.setIy_nmiPending : (s.setIy v).nmiPending = s.nmiPending := rfl
@[simp] theorem State.setIy_intPending : (s.setIy v).intPending = s.intPending := rfl
@[simp] theorem State.setIy_tStates : (s.setIy v).tStates = s.tStates := rfl
@[simp] theorem State.setIy_fault : (s.setIy v).fault = s.fault := rfl
@[simp] theorem State.setIy_mem : (s.setIy v).mem = s.mem := rfl
@[simp] theorem State.setIy_vdp : (s.setIy v).vdp = s.vdp := rfl
@[simp] theorem State.setIy_acc : (s.setIy v).acc = s.acc := rfl
@[simp] theorem State.setIy_inputs : (s.setIy v).inputs = s.inputs := rfl
@[simp] theorem State.setIy_draws : (s.setIy v).draws = s.draws := rfl
@[simp] theorem State.setIy_params : (s.setIy v).params = s.params := rfl
@[simp] theorem State.setIy_resetState : (s.setIy v).resetState = s.resetState := rfl

end setIy

section setA

variable (s : State) (v : Byte)

@[simp] theorem State.setA_main : (s.setA v).main = { s.main with a := v } := rfl
@[simp] theorem State.setA_shadow : (s.setA v).shadow = s.shadow := rfl
@[simp] theorem State.setA_ix : (s.setA v).ix = s.ix := rfl
@[simp] theorem State.setA_iy : (s.setA v).iy = s.iy := rfl
@[simp] theorem State.setA_sp : (s.setA v).sp = s.sp := rfl
@[simp] theorem State.setA_pc : (s.setA v).pc = s.pc := rfl
@[simp] theorem State.setA_i : (s.setA v).i = s.i := rfl
@[simp] theorem State.setA_r : (s.setA v).r = s.r := rfl
@[simp] theorem State.setA_iff1 : (s.setA v).iff1 = s.iff1 := rfl
@[simp] theorem State.setA_iff2 : (s.setA v).iff2 = s.iff2 := rfl
@[simp] theorem State.setA_im : (s.setA v).im = s.im := rfl
@[simp] theorem State.setA_halted : (s.setA v).halted = s.halted := rfl
@[simp] theorem State.setA_nmiPending : (s.setA v).nmiPending = s.nmiPending := rfl
@[simp] theorem State.setA_intPending : (s.setA v).intPending = s.intPending := rfl
@[simp] theorem State.setA_tStates : (s.setA v).tStates = s.tStates := rfl
@[simp] theorem State.setA_fault : (s.setA v).fault = s.fault := rfl
@[simp] theorem State.setA_mem : (s.setA v).mem = s.mem := rfl
@[simp] theorem State.setA_vdp : (s.setA v).vdp = s.vdp := rfl
@[simp] theorem State.setA_acc : (s.setA v).acc = s.acc := rfl
@[simp] theorem State.setA_inputs : (s.setA v).inputs = s.inputs := rfl
@[simp] theorem State.setA_draws : (s.setA v).draws = s.draws := rfl
@[simp] theorem State.setA_params : (s.setA v).params = s.params := rfl
@[simp] theorem State.setA_resetState : (s.setA v).resetState = s.resetState := rfl

end setA

section setB

variable (s : State) (v : Byte)

@[simp] theorem State.setB_main : (s.setB v).main = { s.main with b := v } := rfl
@[simp] theorem State.setB_shadow : (s.setB v).shadow = s.shadow := rfl
@[simp] theorem State.setB_ix : (s.setB v).ix = s.ix := rfl
@[simp] theorem State.setB_iy : (s.setB v).iy = s.iy := rfl
@[simp] theorem State.setB_sp : (s.setB v).sp = s.sp := rfl
@[simp] theorem State.setB_pc : (s.setB v).pc = s.pc := rfl
@[simp] theorem State.setB_i : (s.setB v).i = s.i := rfl
@[simp] theorem State.setB_r : (s.setB v).r = s.r := rfl
@[simp] theorem State.setB_iff1 : (s.setB v).iff1 = s.iff1 := rfl
@[simp] theorem State.setB_iff2 : (s.setB v).iff2 = s.iff2 := rfl
@[simp] theorem State.setB_im : (s.setB v).im = s.im := rfl
@[simp] theorem State.setB_halted : (s.setB v).halted = s.halted := rfl
@[simp] theorem State.setB_nmiPending : (s.setB v).nmiPending = s.nmiPending := rfl
@[simp] theorem State.setB_intPending : (s.setB v).intPending = s.intPending := rfl
@[simp] theorem State.setB_tStates : (s.setB v).tStates = s.tStates := rfl
@[simp] theorem State.setB_fault : (s.setB v).fault = s.fault := rfl
@[simp] theorem State.setB_mem : (s.setB v).mem = s.mem := rfl
@[simp] theorem State.setB_vdp : (s.setB v).vdp = s.vdp := rfl
@[simp] theorem State.setB_acc : (s.setB v).acc = s.acc := rfl
@[simp] theorem State.setB_inputs : (s.setB v).inputs = s.inputs := rfl
@[simp] theorem State.setB_draws : (s.setB v).draws = s.draws := rfl
@[simp] theorem State.setB_params : (s.setB v).params = s.params := rfl
@[simp] theorem State.setB_resetState : (s.setB v).resetState = s.resetState := rfl

end setB

section setR8

variable (s : State) (q : Reg8) (v : Byte)

@[simp] theorem State.setR8_main : (s.setR8 q v).main = s.main.set q v := rfl
@[simp] theorem State.setR8_shadow : (s.setR8 q v).shadow = s.shadow := rfl
@[simp] theorem State.setR8_ix : (s.setR8 q v).ix = s.ix := rfl
@[simp] theorem State.setR8_iy : (s.setR8 q v).iy = s.iy := rfl
@[simp] theorem State.setR8_sp : (s.setR8 q v).sp = s.sp := rfl
@[simp] theorem State.setR8_pc : (s.setR8 q v).pc = s.pc := rfl
@[simp] theorem State.setR8_i : (s.setR8 q v).i = s.i := rfl
@[simp] theorem State.setR8_r : (s.setR8 q v).r = s.r := rfl
@[simp] theorem State.setR8_iff1 : (s.setR8 q v).iff1 = s.iff1 := rfl
@[simp] theorem State.setR8_iff2 : (s.setR8 q v).iff2 = s.iff2 := rfl
@[simp] theorem State.setR8_im : (s.setR8 q v).im = s.im := rfl
@[simp] theorem State.setR8_halted : (s.setR8 q v).halted = s.halted := rfl
@[simp] theorem State.setR8_nmiPending : (s.setR8 q v).nmiPending = s.nmiPending := rfl
@[simp] theorem State.setR8_intPending : (s.setR8 q v).intPending = s.intPending := rfl
@[simp] theorem State.setR8_tStates : (s.setR8 q v).tStates = s.tStates := rfl
@[simp] theorem State.setR8_fault : (s.setR8 q v).fault = s.fault := rfl
@[simp] theorem State.setR8_mem : (s.setR8 q v).mem = s.mem := rfl
@[simp] theorem State.setR8_vdp : (s.setR8 q v).vdp = s.vdp := rfl
@[simp] theorem State.setR8_acc : (s.setR8 q v).acc = s.acc := rfl
@[simp] theorem State.setR8_inputs : (s.setR8 q v).inputs = s.inputs := rfl
@[simp] theorem State.setR8_draws : (s.setR8 q v).draws = s.draws := rfl
@[simp] theorem State.setR8_params : (s.setR8 q v).params = s.params := rfl
@[simp] theorem State.setR8_resetState : (s.setR8 q v).resetState = s.resetState := rfl

end setR8

section setBc

variable (s : State) (v : Word)

@[simp] theorem State.setBc_main : (s.setBc v).main = s.main.setBc v := rfl
@[simp] theorem State.setBc_shadow : (s.setBc v).shadow = s.shadow := rfl
@[simp] theorem State.setBc_ix : (s.setBc v).ix = s.ix := rfl
@[simp] theorem State.setBc_iy : (s.setBc v).iy = s.iy := rfl
@[simp] theorem State.setBc_sp : (s.setBc v).sp = s.sp := rfl
@[simp] theorem State.setBc_pc : (s.setBc v).pc = s.pc := rfl
@[simp] theorem State.setBc_i : (s.setBc v).i = s.i := rfl
@[simp] theorem State.setBc_r : (s.setBc v).r = s.r := rfl
@[simp] theorem State.setBc_iff1 : (s.setBc v).iff1 = s.iff1 := rfl
@[simp] theorem State.setBc_iff2 : (s.setBc v).iff2 = s.iff2 := rfl
@[simp] theorem State.setBc_im : (s.setBc v).im = s.im := rfl
@[simp] theorem State.setBc_halted : (s.setBc v).halted = s.halted := rfl
@[simp] theorem State.setBc_nmiPending : (s.setBc v).nmiPending = s.nmiPending := rfl
@[simp] theorem State.setBc_intPending : (s.setBc v).intPending = s.intPending := rfl
@[simp] theorem State.setBc_tStates : (s.setBc v).tStates = s.tStates := rfl
@[simp] theorem State.setBc_fault : (s.setBc v).fault = s.fault := rfl
@[simp] theorem State.setBc_mem : (s.setBc v).mem = s.mem := rfl
@[simp] theorem State.setBc_vdp : (s.setBc v).vdp = s.vdp := rfl
@[simp] theorem State.setBc_acc : (s.setBc v).acc = s.acc := rfl
@[simp] theorem State.setBc_inputs : (s.setBc v).inputs = s.inputs := rfl
@[simp] theorem State.setBc_draws : (s.setBc v).draws = s.draws := rfl
@[simp] theorem State.setBc_params : (s.setBc v).params = s.params := rfl
@[simp] theorem State.setBc_resetState : (s.setBc v).resetState = s.resetState := rfl

end setBc

section setDe

variable (s : State) (v : Word)

@[simp] theorem State.setDe_main : (s.setDe v).main = s.main.setDe v := rfl
@[simp] theorem State.setDe_shadow : (s.setDe v).shadow = s.shadow := rfl
@[simp] theorem State.setDe_ix : (s.setDe v).ix = s.ix := rfl
@[simp] theorem State.setDe_iy : (s.setDe v).iy = s.iy := rfl
@[simp] theorem State.setDe_sp : (s.setDe v).sp = s.sp := rfl
@[simp] theorem State.setDe_pc : (s.setDe v).pc = s.pc := rfl
@[simp] theorem State.setDe_i : (s.setDe v).i = s.i := rfl
@[simp] theorem State.setDe_r : (s.setDe v).r = s.r := rfl
@[simp] theorem State.setDe_iff1 : (s.setDe v).iff1 = s.iff1 := rfl
@[simp] theorem State.setDe_iff2 : (s.setDe v).iff2 = s.iff2 := rfl
@[simp] theorem State.setDe_im : (s.setDe v).im = s.im := rfl
@[simp] theorem State.setDe_halted : (s.setDe v).halted = s.halted := rfl
@[simp] theorem State.setDe_nmiPending : (s.setDe v).nmiPending = s.nmiPending := rfl
@[simp] theorem State.setDe_intPending : (s.setDe v).intPending = s.intPending := rfl
@[simp] theorem State.setDe_tStates : (s.setDe v).tStates = s.tStates := rfl
@[simp] theorem State.setDe_fault : (s.setDe v).fault = s.fault := rfl
@[simp] theorem State.setDe_mem : (s.setDe v).mem = s.mem := rfl
@[simp] theorem State.setDe_vdp : (s.setDe v).vdp = s.vdp := rfl
@[simp] theorem State.setDe_acc : (s.setDe v).acc = s.acc := rfl
@[simp] theorem State.setDe_inputs : (s.setDe v).inputs = s.inputs := rfl
@[simp] theorem State.setDe_draws : (s.setDe v).draws = s.draws := rfl
@[simp] theorem State.setDe_params : (s.setDe v).params = s.params := rfl
@[simp] theorem State.setDe_resetState : (s.setDe v).resetState = s.resetState := rfl

end setDe

section setHl

variable (s : State) (v : Word)

@[simp] theorem State.setHl_main : (s.setHl v).main = s.main.setHl v := rfl
@[simp] theorem State.setHl_shadow : (s.setHl v).shadow = s.shadow := rfl
@[simp] theorem State.setHl_ix : (s.setHl v).ix = s.ix := rfl
@[simp] theorem State.setHl_iy : (s.setHl v).iy = s.iy := rfl
@[simp] theorem State.setHl_sp : (s.setHl v).sp = s.sp := rfl
@[simp] theorem State.setHl_pc : (s.setHl v).pc = s.pc := rfl
@[simp] theorem State.setHl_i : (s.setHl v).i = s.i := rfl
@[simp] theorem State.setHl_r : (s.setHl v).r = s.r := rfl
@[simp] theorem State.setHl_iff1 : (s.setHl v).iff1 = s.iff1 := rfl
@[simp] theorem State.setHl_iff2 : (s.setHl v).iff2 = s.iff2 := rfl
@[simp] theorem State.setHl_im : (s.setHl v).im = s.im := rfl
@[simp] theorem State.setHl_halted : (s.setHl v).halted = s.halted := rfl
@[simp] theorem State.setHl_nmiPending : (s.setHl v).nmiPending = s.nmiPending := rfl
@[simp] theorem State.setHl_intPending : (s.setHl v).intPending = s.intPending := rfl
@[simp] theorem State.setHl_tStates : (s.setHl v).tStates = s.tStates := rfl
@[simp] theorem State.setHl_fault : (s.setHl v).fault = s.fault := rfl
@[simp] theorem State.setHl_mem : (s.setHl v).mem = s.mem := rfl
@[simp] theorem State.setHl_vdp : (s.setHl v).vdp = s.vdp := rfl
@[simp] theorem State.setHl_acc : (s.setHl v).acc = s.acc := rfl
@[simp] theorem State.setHl_inputs : (s.setHl v).inputs = s.inputs := rfl
@[simp] theorem State.setHl_draws : (s.setHl v).draws = s.draws := rfl
@[simp] theorem State.setHl_params : (s.setHl v).params = s.params := rfl
@[simp] theorem State.setHl_resetState : (s.setHl v).resetState = s.resetState := rfl

end setHl

section afterRd

variable (s : State) (a : Word)

@[simp] theorem State.afterRd_main : (s.afterRd a).main = s.main := rfl
@[simp] theorem State.afterRd_shadow : (s.afterRd a).shadow = s.shadow := rfl
@[simp] theorem State.afterRd_ix : (s.afterRd a).ix = s.ix := rfl
@[simp] theorem State.afterRd_iy : (s.afterRd a).iy = s.iy := rfl
@[simp] theorem State.afterRd_sp : (s.afterRd a).sp = s.sp := rfl
@[simp] theorem State.afterRd_pc : (s.afterRd a).pc = s.pc := rfl
@[simp] theorem State.afterRd_i : (s.afterRd a).i = s.i := rfl
@[simp] theorem State.afterRd_r : (s.afterRd a).r = s.r := rfl
@[simp] theorem State.afterRd_iff1 : (s.afterRd a).iff1 = s.iff1 := rfl
@[simp] theorem State.afterRd_iff2 : (s.afterRd a).iff2 = s.iff2 := rfl
@[simp] theorem State.afterRd_im : (s.afterRd a).im = s.im := rfl
@[simp] theorem State.afterRd_halted : (s.afterRd a).halted = s.halted := rfl
@[simp] theorem State.afterRd_nmiPending : (s.afterRd a).nmiPending = s.nmiPending := rfl
@[simp] theorem State.afterRd_intPending : (s.afterRd a).intPending = s.intPending := rfl
@[simp] theorem State.afterRd_tStates : (s.afterRd a).tStates = s.tStates := rfl
@[simp] theorem State.afterRd_fault : (s.afterRd a).fault = s.fault := rfl
@[simp] theorem State.afterRd_mem : (s.afterRd a).mem = s.mem.afterRead a := rfl
@[simp] theorem State.afterRd_vdp : (s.afterRd a).vdp = s.vdp := rfl
@[simp] theorem State.afterRd_acc : (s.afterRd a).acc = s.acc := rfl
@[simp] theorem State.afterRd_inputs : (s.afterRd a).inputs = s.inputs := rfl
@[simp] theorem State.afterRd_draws : (s.afterRd a).draws = s.draws := rfl
@[simp] theorem State.afterRd_params : (s.afterRd a).params = s.params := rfl
@[simp] theorem State.afterRd_resetState : (s.afterRd a).resetState = s.resetState := rfl

end afterRd

section wr

variable (s : State) (a : Word) (v : Byte)

@[simp] theorem State.wr_main : (s.wr a v).main = s.main := rfl
@[simp] theorem State.wr_shadow : (s.wr a v).shadow = s.shadow := rfl
@[simp] theorem State.wr_ix : (s.wr a v).ix = s.ix := rfl
@[simp] theorem State.wr_iy : (s.wr a v).iy = s.iy := rfl
@[simp] theorem State.wr_sp : (s.wr a v).sp = s.sp := rfl
@[simp] theorem State.wr_pc : (s.wr a v).pc = s.pc := rfl
@[simp] theorem State.wr_i : (s.wr a v).i = s.i := rfl
@[simp] theorem State.wr_r : (s.wr a v).r = s.r := rfl
@[simp] theorem State.wr_iff1 : (s.wr a v).iff1 = s.iff1 := rfl
@[simp] theorem State.wr_iff2 : (s.wr a v).iff2 = s.iff2 := rfl
@[simp] theorem State.wr_im : (s.wr a v).im = s.im := rfl
@[simp] theorem State.wr_halted : (s.wr a v).halted = s.halted := rfl
@[simp] theorem State.wr_nmiPending : (s.wr a v).nmiPending = s.nmiPending := rfl
@[simp] theorem State.wr_intPending : (s.wr a v).intPending = s.intPending := rfl
@[simp] theorem State.wr_tStates : (s.wr a v).tStates = s.tStates := rfl
@[simp] theorem State.wr_fault : (s.wr a v).fault = s.fault := rfl
@[simp] theorem State.wr_mem : (s.wr a v).mem = s.mem.write a v := rfl
@[simp] theorem State.wr_vdp : (s.wr a v).vdp = s.vdp := rfl
@[simp] theorem State.wr_acc : (s.wr a v).acc = s.acc := rfl
@[simp] theorem State.wr_inputs : (s.wr a v).inputs = s.inputs := rfl
@[simp] theorem State.wr_draws : (s.wr a v).draws = s.draws := rfl
@[simp] theorem State.wr_params : (s.wr a v).params = s.params := rfl
@[simp] theorem State.wr_resetState : (s.wr a v).resetState = s.resetState := rfl

end wr

section skip

variable (s : State) (n : Nat)

@[simp] theorem State.skip_main : (s.skip n).main = s.main := rfl
@[simp] theorem State.skip_shadow : (s.skip n).shadow = s.shadow := rfl
@[simp] theorem State.skip_ix : (s.skip n).ix = s.ix := rfl
@[simp] theorem State.skip_iy : (s.skip n).iy = s.iy := rfl
@[simp] theorem State.skip_sp : (s.skip n).sp = s.sp := rfl
@[simp] theorem State.skip_pc : (s.skip n).pc = s.pc + BitVec.ofNat 16 n := rfl
@[simp] theorem State.skip_i : (s.skip n).i = s.i := rfl
@[simp] theorem State.skip_r : (s.skip n).r = s.r := rfl
@[simp] theorem State.skip_iff1 : (s.skip n).iff1 = s.iff1 := rfl
@[simp] theorem State.skip_iff2 : (s.skip n).iff2 = s.iff2 := rfl
@[simp] theorem State.skip_im : (s.skip n).im = s.im := rfl
@[simp] theorem State.skip_halted : (s.skip n).halted = s.halted := rfl
@[simp] theorem State.skip_nmiPending : (s.skip n).nmiPending = s.nmiPending := rfl
@[simp] theorem State.skip_intPending : (s.skip n).intPending = s.intPending := rfl
@[simp] theorem State.skip_tStates : (s.skip n).tStates = s.tStates := rfl
@[simp] theorem State.skip_fault : (s.skip n).fault = s.fault := rfl
@[simp] theorem State.skip_mem : (s.skip n).mem = s.mem.afterFetches s.pc n := rfl
@[simp] theorem State.skip_vdp : (s.skip n).vdp = s.vdp := rfl
@[simp] theorem State.skip_acc : (s.skip n).acc = s.acc := rfl
@[simp] theorem State.skip_inputs : (s.skip n).inputs = s.inputs := rfl
@[simp] theorem State.skip_draws : (s.skip n).draws = s.draws := rfl
@[simp] theorem State.skip_params : (s.skip n).params = s.params := rfl
@[simp] theorem State.skip_resetState : (s.skip n).resetState = s.resetState := rfl

end skip

section addT

variable (s : State) (n : Nat)

@[simp] theorem State.addT_main : (s.addT n).main = s.main := rfl
@[simp] theorem State.addT_shadow : (s.addT n).shadow = s.shadow := rfl
@[simp] theorem State.addT_ix : (s.addT n).ix = s.ix := rfl
@[simp] theorem State.addT_iy : (s.addT n).iy = s.iy := rfl
@[simp] theorem State.addT_sp : (s.addT n).sp = s.sp := rfl
@[simp] theorem State.addT_pc : (s.addT n).pc = s.pc := rfl
@[simp] theorem State.addT_i : (s.addT n).i = s.i := rfl
@[simp] theorem State.addT_r : (s.addT n).r = s.r := rfl
@[simp] theorem State.addT_iff1 : (s.addT n).iff1 = s.iff1 := rfl
@[simp] theorem State.addT_iff2 : (s.addT n).iff2 = s.iff2 := rfl
@[simp] theorem State.addT_im : (s.addT n).im = s.im := rfl
@[simp] theorem State.addT_halted : (s.addT n).halted = s.halted := rfl
@[simp] theorem State.addT_nmiPending : (s.addT n).nmiPending = s.nmiPending := rfl
@[simp] theorem State.addT_intPending : (s.addT n).intPending = s.intPending := rfl
@[simp] theorem State.addT_tStates : (s.addT n).tStates = s.tStates + n := rfl
@[simp] theorem State.addT_fault : (s.addT n).fault = s.fault := rfl
@[simp] theorem State.addT_mem : (s.addT n).mem = s.mem := rfl
@[simp] theorem State.addT_vdp : (s.addT n).vdp = s.vdp := rfl
@[simp] theorem State.addT_acc : (s.addT n).acc = s.acc := rfl
@[simp] theorem State.addT_inputs : (s.addT n).inputs = s.inputs := rfl
@[simp] theorem State.addT_draws : (s.addT n).draws = s.draws := rfl
@[simp] theorem State.addT_params : (s.addT n).params = s.params := rfl
@[simp] theorem State.addT_resetState : (s.addT n).resetState = s.resetState := rfl

end addT

section raise

variable (s : State) (e : Fault)

@[simp] theorem State.raise_main : (s.raise e).main = s.main := rfl
@[simp] theorem State.raise_shadow : (s.raise e).shadow = s.shadow := rfl
@[simp] theorem State.raise_ix : (s.raise e).ix = s.ix := rfl
@[simp] theorem State.raise_iy : (s.raise e).iy = s.iy := rfl
@[simp] theorem State.raise_sp : (s.raise e).sp = s.sp := rfl
@[simp] theorem State.raise_pc : (s.raise e).pc = s.pc := rfl
@[simp] theorem State.raise_i : (s.raise e).i = s.i := rfl
@[simp] theorem State.raise_r : (s.raise e).r = s.r := rfl
@[simp] theorem State.raise_iff1 : (s.raise e).iff1 = s.iff1 := rfl
@[simp] theorem State.raise_iff2 : (s.raise e).iff2 = s.iff2 := rfl
@[simp] theorem State.raise_im : (s.raise e).im = s.im := rfl
@[simp] theorem State.raise_halted : (s.raise e).halted = s.halted := rfl
@[simp] theorem State.raise_nmiPending : (s.raise e).nmiPending = s.nmiPending := rfl
@[simp] theorem State.raise_intPending : (s.raise e).intPending = s.intPending := rfl
@[simp] theorem State.raise_tStates : (s.raise e).tStates = s.tStates := rfl
@[simp] theorem State.raise_fault : (s.raise e).fault = some e := rfl
@[simp] theorem State.raise_mem : (s.raise e).mem = s.mem := rfl
@[simp] theorem State.raise_vdp : (s.raise e).vdp = s.vdp := rfl
@[simp] theorem State.raise_acc : (s.raise e).acc = s.acc := rfl
@[simp] theorem State.raise_inputs : (s.raise e).inputs = s.inputs := rfl
@[simp] theorem State.raise_draws : (s.raise e).draws = s.draws := rfl
@[simp] theorem State.raise_params : (s.raise e).params = s.params := rfl
@[simp] theorem State.raise_resetState : (s.raise e).resetState = s.resetState := rfl

end raise

section writeFlags

variable (s : State) (g : Flags)

@[simp] theorem State.writeFlags_main :
    (s.writeFlags g).main = { s.main with
      f := { g with f5 := Config.freeFlag .f5 s.draws, f3 := Config.freeFlag .f3 s.draws } } := rfl
@[simp] theorem State.writeFlags_shadow : (s.writeFlags g).shadow = s.shadow := rfl
@[simp] theorem State.writeFlags_ix : (s.writeFlags g).ix = s.ix := rfl
@[simp] theorem State.writeFlags_iy : (s.writeFlags g).iy = s.iy := rfl
@[simp] theorem State.writeFlags_sp : (s.writeFlags g).sp = s.sp := rfl
@[simp] theorem State.writeFlags_pc : (s.writeFlags g).pc = s.pc := rfl
@[simp] theorem State.writeFlags_i : (s.writeFlags g).i = s.i := rfl
@[simp] theorem State.writeFlags_r : (s.writeFlags g).r = s.r := rfl
@[simp] theorem State.writeFlags_iff1 : (s.writeFlags g).iff1 = s.iff1 := rfl
@[simp] theorem State.writeFlags_iff2 : (s.writeFlags g).iff2 = s.iff2 := rfl
@[simp] theorem State.writeFlags_im : (s.writeFlags g).im = s.im := rfl
@[simp] theorem State.writeFlags_halted : (s.writeFlags g).halted = s.halted := rfl
@[simp] theorem State.writeFlags_nmiPending : (s.writeFlags g).nmiPending = s.nmiPending := rfl
@[simp] theorem State.writeFlags_intPending : (s.writeFlags g).intPending = s.intPending := rfl
@[simp] theorem State.writeFlags_tStates : (s.writeFlags g).tStates = s.tStates := rfl
@[simp] theorem State.writeFlags_fault : (s.writeFlags g).fault = s.fault := rfl
@[simp] theorem State.writeFlags_mem : (s.writeFlags g).mem = s.mem := rfl
@[simp] theorem State.writeFlags_vdp : (s.writeFlags g).vdp = s.vdp := rfl
@[simp] theorem State.writeFlags_acc : (s.writeFlags g).acc = s.acc := rfl
@[simp] theorem State.writeFlags_inputs : (s.writeFlags g).inputs = s.inputs := rfl
@[simp] theorem State.writeFlags_draws : (s.writeFlags g).draws = s.draws + 1 := rfl
@[simp] theorem State.writeFlags_params : (s.writeFlags g).params = s.params := rfl
@[simp] theorem State.writeFlags_resetState : (s.writeFlags g).resetState = s.resetState := rfl

end writeFlags

section refreshR

variable (s : State)

@[simp] theorem State.refreshR_main : s.refreshR.main = s.main := rfl
@[simp] theorem State.refreshR_shadow : s.refreshR.shadow = s.shadow := rfl
@[simp] theorem State.refreshR_ix : s.refreshR.ix = s.ix := rfl
@[simp] theorem State.refreshR_iy : s.refreshR.iy = s.iy := rfl
@[simp] theorem State.refreshR_sp : s.refreshR.sp = s.sp := rfl
@[simp] theorem State.refreshR_pc : s.refreshR.pc = s.pc := rfl
@[simp] theorem State.refreshR_i : s.refreshR.i = s.i := rfl
@[simp] theorem State.refreshR_r : s.refreshR.r = s.r.extractLsb' 7 1 ++ Config.refresh s.draws := rfl
@[simp] theorem State.refreshR_iff1 : s.refreshR.iff1 = s.iff1 := rfl
@[simp] theorem State.refreshR_iff2 : s.refreshR.iff2 = s.iff2 := rfl
@[simp] theorem State.refreshR_im : s.refreshR.im = s.im := rfl
@[simp] theorem State.refreshR_halted : s.refreshR.halted = s.halted := rfl
@[simp] theorem State.refreshR_nmiPending : s.refreshR.nmiPending = s.nmiPending := rfl
@[simp] theorem State.refreshR_intPending : s.refreshR.intPending = s.intPending := rfl
@[simp] theorem State.refreshR_tStates : s.refreshR.tStates = s.tStates := rfl
@[simp] theorem State.refreshR_fault : s.refreshR.fault = s.fault := rfl
@[simp] theorem State.refreshR_mem : s.refreshR.mem = s.mem := rfl
@[simp] theorem State.refreshR_vdp : s.refreshR.vdp = s.vdp := rfl
@[simp] theorem State.refreshR_acc : s.refreshR.acc = s.acc := rfl
@[simp] theorem State.refreshR_inputs : s.refreshR.inputs = s.inputs := rfl
@[simp] theorem State.refreshR_draws : s.refreshR.draws = s.draws + 1 := rfl
@[simp] theorem State.refreshR_params : s.refreshR.params = s.params := rfl
@[simp] theorem State.refreshR_resetState : s.refreshR.resetState = s.resetState := rfl

end refreshR

section feedInterrupt

variable (s : State)

@[simp] theorem State.feedInterrupt_main : s.feedInterrupt.main = s.main := rfl
@[simp] theorem State.feedInterrupt_shadow : s.feedInterrupt.shadow = s.shadow := rfl
@[simp] theorem State.feedInterrupt_ix : s.feedInterrupt.ix = s.ix := rfl
@[simp] theorem State.feedInterrupt_iy : s.feedInterrupt.iy = s.iy := rfl
@[simp] theorem State.feedInterrupt_sp : s.feedInterrupt.sp = s.sp := rfl
@[simp] theorem State.feedInterrupt_pc : s.feedInterrupt.pc = s.pc := rfl
@[simp] theorem State.feedInterrupt_i : s.feedInterrupt.i = s.i := rfl
@[simp] theorem State.feedInterrupt_r : s.feedInterrupt.r = s.r := rfl
@[simp] theorem State.feedInterrupt_iff1 : s.feedInterrupt.iff1 = s.iff1 := rfl
@[simp] theorem State.feedInterrupt_iff2 : s.feedInterrupt.iff2 = s.iff2 := rfl
@[simp] theorem State.feedInterrupt_im : s.feedInterrupt.im = s.im := rfl
@[simp] theorem State.feedInterrupt_halted : s.feedInterrupt.halted = s.halted := rfl
@[simp] theorem State.feedInterrupt_nmiPending : s.feedInterrupt.nmiPending = s.nmiPending := rfl
@[simp] theorem State.feedInterrupt_intPending :
    s.feedInterrupt.intPending = s.params.feed.pending s.intPending s.vdp.irqPending := rfl
@[simp] theorem State.feedInterrupt_tStates : s.feedInterrupt.tStates = s.tStates := rfl
@[simp] theorem State.feedInterrupt_fault : s.feedInterrupt.fault = s.fault := rfl
@[simp] theorem State.feedInterrupt_mem : s.feedInterrupt.mem = s.mem := rfl
@[simp] theorem State.feedInterrupt_vdp :
    s.feedInterrupt.vdp = { s.vdp with irqPending := s.params.feed.keeps s.vdp.irqPending } := rfl
@[simp] theorem State.feedInterrupt_acc : s.feedInterrupt.acc = s.acc := rfl
@[simp] theorem State.feedInterrupt_inputs : s.feedInterrupt.inputs = s.inputs := rfl
@[simp] theorem State.feedInterrupt_draws : s.feedInterrupt.draws = s.draws := rfl
@[simp] theorem State.feedInterrupt_params : s.feedInterrupt.params = s.params := rfl
@[simp] theorem State.feedInterrupt_resetState : s.feedInterrupt.resetState = s.resetState := rfl

end feedInterrupt

end Sys2Proof.Machine
end

