-- ==== Sys2Proof/Laws/Store.lean ====
section
/-! SUPPORT. The sparse store: a read after a write, and the canonical form kept by every operation of memory, VRAM
and the framebuffer. -/

namespace Sys2Proof.Machine

section Store

variable {α : Type} {dflt : α} {bound : Nat}

theorem Store.get_erase (m : List (Nat × α)) (a x : Nat) :
    Store.get dflt (Store.erase m a) x = if x = a then dflt else Store.get dflt m x := by
  induction m with
  | nil => simp [Store.erase, Store.get]
  | cons e rest ih =>
    obtain ⟨b, v⟩ := e
    by_cases hb : b = a
    · simp only [Store.erase, hb, if_true, ih, Store.get]
      by_cases hx : x = a
      · simp [hx]
      · simp [hx, Ne.symm hx]
    · simp only [Store.erase, hb, if_false, Store.get, ih]
      by_cases hx : b = x
      · subst hx; simp [hb]
      · simp [hx]

theorem Store.not_mem_erase (m : List (Nat × α)) (a : Nat) : ∀ e ∈ Store.erase m a, e.1 ≠ a := by
  induction m with
  | nil => simp [Store.erase]
  | cons e rest ih =>
    obtain ⟨b, v⟩ := e
    by_cases hb : b = a
    · simpa [Store.erase, hb] using ih
    · intro e he
      rcases List.mem_cons.mp (by simpa [Store.erase, hb] using he) with rfl | he
      · exact hb
      · exact ih e he

theorem Store.get_insert (m : List (Nat × α)) (a : Nat) (v : α) (x : Nat) (h : ∀ e ∈ m, e.1 ≠ a) :
    Store.get dflt (Store.insert m a v) x = if x = a then v else Store.get dflt m x := by
  induction m with
  | nil => simp only [Store.insert, Store.get, eq_comm (a := a)]
  | cons e rest ih =>
    obtain ⟨b, w⟩ := e
    have hb : b ≠ a := h (b, w) List.mem_cons_self
    have hrest : ∀ e ∈ rest, e.1 ≠ a := fun e he => h e (List.mem_cons_of_mem _ he)
    simp only [Store.insert]
    by_cases hlt : a < b
    · simp only [hlt, if_true, Store.get]
      by_cases hx : x = a
      · simp [hx]
      · simp [hx, Ne.symm hx]
    · simp only [hlt, if_false, Store.get, ih hrest]
      by_cases hx : b = x
      · subst hx; simp [hb]
      · simp [hx]

variable [DecidableEq α]

/-- A read after a write: the value written at the address written, the old value elsewhere. -/
theorem Store.get_set (m : List (Nat × α)) (a : Nat) (v : α) (x : Nat) :
    Store.get dflt (Store.set dflt m a v) x = if x = a then v else Store.get dflt m x := by
  unfold Store.set
  by_cases hv : v = dflt
  · simp [hv, Store.get_erase]
  · rw [if_neg hv, Store.get_insert _ _ _ _ (Store.not_mem_erase m a), Store.get_erase]
    by_cases hx : x = a <;> simp [hx]

theorem Store.wfFrom_cons {lo a : Nat} {v : α} {rest : List (Nat × α)} :
    Store.wfFrom dflt bound lo ((a, v) :: rest) = true ↔
      lo ≤ a ∧ a < bound ∧ v ≠ dflt ∧ Store.wfFrom dflt bound (a + 1) rest = true := by
  simp [Store.wfFrom, and_assoc]

theorem Store.wfFrom_mono {lo lo' : Nat} {m : List (Nat × α)} (h : Store.wfFrom dflt bound lo m = true)
    (hle : lo' ≤ lo) : Store.wfFrom dflt bound lo' m = true := by
  cases m with
  | nil => rfl
  | cons e rest =>
    obtain ⟨a, v⟩ := e
    rw [Store.wfFrom_cons] at h ⊢
    exact ⟨hle.trans h.1, h.2⟩

theorem Store.wfFrom_erase (m : List (Nat × α)) (a : Nat) {lo : Nat} (h : Store.wfFrom dflt bound lo m = true) :
    Store.wfFrom dflt bound lo (Store.erase m a) = true := by
  induction m generalizing lo with
  | nil => rfl
  | cons e rest ih =>
    obtain ⟨b, v⟩ := e
    rw [Store.wfFrom_cons] at h
    by_cases hb : b = a
    · rw [Store.erase, if_pos hb]
      exact Store.wfFrom_mono (ih h.2.2.2) (by omega)
    · rw [Store.erase, if_neg hb, Store.wfFrom_cons]
      exact ⟨h.1, h.2.1, h.2.2.1, ih h.2.2.2⟩

theorem Store.wfFrom_insert (m : List (Nat × α)) (a : Nat) (v : α) {lo : Nat}
    (h : Store.wfFrom dflt bound lo m = true) (hlo : lo ≤ a) (ha : a < bound) (hv : v ≠ dflt)
    (hm : ∀ e ∈ m, e.1 ≠ a) : Store.wfFrom dflt bound lo (Store.insert m a v) = true := by
  induction m generalizing lo with
  | nil => exact Store.wfFrom_cons.mpr ⟨hlo, ha, hv, rfl⟩
  | cons e rest ih =>
    obtain ⟨b, w⟩ := e
    have hb : b ≠ a := hm (b, w) List.mem_cons_self
    rw [Store.wfFrom_cons] at h
    by_cases hlt : a < b
    · rw [Store.insert, if_pos hlt, Store.wfFrom_cons, Store.wfFrom_cons]
      exact ⟨hlo, ha, hv, hlt, h.2⟩
    · rw [Store.insert, if_neg hlt, Store.wfFrom_cons]
      exact ⟨h.1, h.2.1, h.2.2.1, ih h.2.2.2 (by omega) fun e he => hm e (List.mem_cons_of_mem _ he)⟩

/-- A write inside the bound keeps the canonical form. -/
theorem Store.wf_set {m : List (Nat × α)} (h : Store.wf dflt bound m = true) {a : Nat} (ha : a < bound) (v : α) :
    Store.wf dflt bound (Store.set dflt m a v) = true := by
  unfold Store.set
  by_cases hv : v = dflt
  · rw [if_pos hv]; exact Store.wfFrom_erase m a h
  · rw [if_neg hv]
    exact Store.wfFrom_insert _ a v (Store.wfFrom_erase m a h) (Nat.zero_le _) ha hv (Store.not_mem_erase m a)

theorem Store.get_of_lt {m : List (Nat × α)} {lo x : Nat} (h : Store.wfFrom dflt bound lo m = true) (hx : x < lo) :
    Store.get dflt m x = dflt := by
  induction m generalizing lo with
  | nil => rfl
  | cons e rest ih =>
    obtain ⟨b, v⟩ := e
    rw [Store.wfFrom_cons] at h
    rw [Store.get, if_neg (by omega)]
    exact ih h.2.2.2 (by omega)

/-- Canonical stores that read the same everywhere are the same list. -/
theorem Store.ext_of_wfFrom {m m' : List (Nat × α)} {lo : Nat} (h : Store.wfFrom dflt bound lo m = true)
    (h' : Store.wfFrom dflt bound lo m' = true) (hget : ∀ x, Store.get dflt m x = Store.get dflt m' x) :
    m = m' := by
  induction m generalizing m' lo with
  | nil =>
    cases m' with
    | nil => rfl
    | cons e rest =>
      obtain ⟨b, v⟩ := e
      rw [Store.wfFrom_cons] at h'
      exact absurd (by simpa [Store.get] using (hget b).symm) h'.2.2.1
  | cons e rest ih =>
    obtain ⟨a, v⟩ := e
    rw [Store.wfFrom_cons] at h
    cases m' with
    | nil => exact absurd (by simpa [Store.get] using hget a) h.2.2.1
    | cons e' rest' =>
      obtain ⟨b, w⟩ := e'
      rw [Store.wfFrom_cons] at h'
      have hab : a = b := by
        rcases Nat.lt_trichotomy a b with hlt | heq | hgt
        · have := hget a
          rw [Store.get, if_pos rfl, Store.get, if_neg (by omega), Store.get_of_lt h'.2.2.2 (by omega)] at this
          exact absurd this h.2.2.1
        · exact heq
        · have := hget b
          rw [Store.get, if_neg (by omega), Store.get, if_pos rfl, Store.get_of_lt h.2.2.2 (by omega)] at this
          exact absurd this.symm h'.2.2.1
      subst hab
      have hvw : v = w := by simpa [Store.get] using hget a
      subst hvw
      rw [ih h.2.2.2 h'.2.2.2 fun x => ?_]
      by_cases hx : a = x
      · subst hx
        rw [Store.get_of_lt h.2.2.2 (by omega), Store.get_of_lt h'.2.2.2 (by omega)]
      · simpa [Store.get, hx] using hget x

end Store

/-! ### The three stores -/

/-- R62: a read gives the byte most recently written. -/
theorem Memory.read_write (m : List Host.Cell) (a : Word) (v : Byte) (x : Word) :
    Memory.read (Memory.write m a v) x = if x = a then v else Memory.read m x := by
  simp [Memory.read, Memory.write, Store.get_set, BitVec.toNat_inj]

@[simp] theorem Memory.read_write_same (m : List Host.Cell) (a : Word) (v : Byte) :
    Memory.read (Memory.write m a v) a = v := by
  simp [Memory.read_write]

theorem Memory.read_write_other (m : List Host.Cell) (a : Word) (v : Byte) {x : Word} (h : x ≠ a) :
    Memory.read (Memory.write m a v) x = Memory.read m x := by
  simp [Memory.read_write, h]

theorem Memory.wf_write {m : List Host.Cell} (h : Memory.wf m = true) (a : Word) (v : Byte) :
    Memory.wf (Memory.write m a v) = true :=
  Store.wf_set h a.isLt v

theorem Memory.wf_nil : Memory.wf [] = true := rfl

theorem Memory.wf_foldl_write (image : List Host.Cell) {m : List Host.Cell} (h : Memory.wf m = true) :
    Memory.wf (image.foldl (fun m cell => Memory.write m (BitVec.ofNat 16 cell.1) cell.2) m) = true := by
  induction image generalizing m with
  | nil => exact h
  | cons cell rest ih => exact ih (Memory.wf_write h _ _)

/-- A loaded image is in canonical form. -/
theorem Memory.wf_ofImage (image : List Host.Cell) : Memory.wf (Memory.ofImage image) = true :=
  Memory.wf_foldl_write image Memory.wf_nil

theorem Memory.ext_of_wf {m m' : List Host.Cell} (h : Memory.wf m = true) (h' : Memory.wf m' = true)
    (hread : ∀ x, Memory.read m x = Memory.read m' x) : m = m' := by
  refine Store.ext_of_wfFrom h h' fun x => ?_
  by_cases hx : x < 65536
  · simpa [Memory.read, BitVec.toNat_ofNat, Nat.mod_eq_of_lt hx] using hread (BitVec.ofNat 16 x)
  · have out : ∀ {lo : Nat} {m : List Host.Cell}, Store.wfFrom Config.unwrittenByte 65536 lo m = true →
        Store.get Config.unwrittenByte m x = Config.unwrittenByte := by
      intro lo m hm
      induction m generalizing lo with
      | nil => rfl
      | cons e rest ih =>
        obtain ⟨b, v⟩ := e
        rw [Store.wfFrom_cons] at hm
        rw [Store.get, if_neg (by omega)]
        exact ih hm.2.2.2
    rw [out h, out h']

/-! ### The memory component (R62, R65) -/

/-- A byte read after a byte written, in the flat array. -/
theorem Mem.read_write {m : Mem} (h : m.isFlat = true) (a : Word) (v : Byte) (x : Word) :
    (m.write a v).read x = if x = a then v else m.read x := by
  cases m with
  | flat bytes => exact Memory.read_write bytes a v x
  | component m => cases h

/-- A read of the flat array has no effect. -/
theorem Mem.afterRead_of_isFlat {m : Mem} (h : m.isFlat = true) (a : Word) : m.afterRead a = m := by
  cases m with
  | flat bytes => rfl
  | component m => cases h

@[simp] theorem Mem.isFlat_afterRead (m : Mem) (a : Word) : (m.afterRead a).isFlat = m.isFlat := by
  cases m <;> rfl

@[simp] theorem Mem.isFlat_write (m : Mem) (a : Word) (v : Byte) : (m.write a v).isFlat = m.isFlat := by
  cases m <;> rfl

@[simp] theorem Mem.isFlat_load (m : Mem) (image : List Host.Cell) : (m.load image).isFlat = m.isFlat := by
  cases m <;> rfl

@[simp] theorem Mem.isFlat_afterFetches (m : Mem) (a : Word) (n : Nat) :
    (m.afterFetches a n).isFlat = m.isFlat := by
  induction n generalizing m a with
  | zero => rfl
  | succ n ih => rw [Mem.afterFetches, ih, Mem.isFlat_afterRead]

/-- Fetches from the flat array have no effect. -/
theorem Mem.afterFetches_of_isFlat {m : Mem} (h : m.isFlat = true) (a : Word) (n : Nat) :
    m.afterFetches a n = m := by
  induction n generalizing a with
  | zero => rfl
  | succ n ih => rw [Mem.afterFetches, Mem.afterRead_of_isFlat h, ih]

/-- Fetches add up. -/
theorem Mem.afterFetches_add (m : Mem) (a : Word) (n k : Nat) :
    m.afterFetches a (n + k) = (m.afterFetches a n).afterFetches (a + BitVec.ofNat 16 n) k := by
  induction n generalizing m a with
  | zero => simp [Mem.afterFetches]
  | succ n ih =>
    have h : a + 1 + BitVec.ofNat 16 n = a + BitVec.ofNat 16 (n + 1) := by
      rw [BitVec.ofNat_add, BitVec.add_assoc, BitVec.add_comm 1]
      rfl
    rw [Nat.succ_add, Mem.afterFetches, ih, h]
    rfl

theorem Mem.wf_afterRead {m : Mem} (h : m.wf = true) (a : Word) : (m.afterRead a).wf = true := by
  cases m <;> exact h

theorem Mem.wf_write {m : Mem} (h : m.wf = true) (a : Word) (v : Byte) : (m.write a v).wf = true := by
  cases m with
  | flat bytes => exact Memory.wf_write h a v
  | component m => rfl

theorem Mem.wf_afterFetches {m : Mem} (h : m.wf = true) (a : Word) (n : Nat) : (m.afterFetches a n).wf = true := by
  induction n generalizing m a with
  | zero => exact h
  | succ n ih => exact ih (Mem.wf_afterRead h a) (a + 1)

/-- A loaded image leaves the component in canonical form. -/
theorem Mem.wf_load (m : Mem) (image : List Host.Cell) : (m.load image).wf = true := by
  cases m with
  | flat bytes => exact Memory.wf_ofImage image
  | component m => rfl

/-! ### VRAM and the framebuffer -/

theorem Vram.read_write (m : List Host.Cell) (a : BitVec 14) (v : Byte) (x : BitVec 14) :
    Vram.read (Vram.write m a v) x = if x = a then v else Vram.read m x := by
  simp [Vram.read, Vram.write, Store.get_set, BitVec.toNat_inj]

theorem Vram.wf_write {m : List Host.Cell} (h : Vram.wf m = true) (a : BitVec 14) (v : Byte) :
    Vram.wf (Vram.write m a v) = true :=
  Store.wf_set h a.isLt v

theorem Fb.row_writeRow (fb : List (Nat × List Rgb)) (y : Nat) (row : List Rgb) (x : Nat) :
    Fb.row (Fb.writeRow fb y row) x = if x = y then row else Fb.row fb x :=
  Store.get_set fb y row x

theorem Store.mem_erase {α : Type} {m : List (Nat × α)} {a : Nat} {e : Nat × α} (h : e ∈ Store.erase m a) :
    e ∈ m := by
  induction m with
  | nil => exact h
  | cons e' rest ih =>
    obtain ⟨b, v⟩ := e'
    by_cases hb : b = a
    · rw [Store.erase, if_pos hb] at h
      exact List.mem_cons_of_mem _ (ih h)
    · rw [Store.erase, if_neg hb] at h
      rcases List.mem_cons.mp h with rfl | h
      · exact List.mem_cons_self
      · exact List.mem_cons_of_mem _ (ih h)

theorem Store.mem_insert {α : Type} {m : List (Nat × α)} {a : Nat} {v : α} {e : Nat × α}
    (h : e ∈ Store.insert m a v) : e = (a, v) ∨ e ∈ m := by
  induction m with
  | nil => simpa [Store.insert] using h
  | cons e' rest ih =>
    obtain ⟨b, w⟩ := e'
    by_cases hb : a < b
    · rw [Store.insert, if_pos hb] at h
      exact List.mem_cons.mp h
    · rw [Store.insert, if_neg hb] at h
      rcases List.mem_cons.mp h with rfl | h
      · exact .inr List.mem_cons_self
      · exact (ih h).imp_right (List.mem_cons_of_mem _)

theorem Fb.wf_writeRow {fb : List (Nat × List Rgb)} (h : Fb.wf fb = true) {y : Nat} (hy : y < 192)
    {row : List Rgb} (hrow : row.length = 256) : Fb.wf (Fb.writeRow fb y row) = true := by
  simp only [Fb.wf, Bool.and_eq_true, List.all_eq_true, beq_iff_eq] at h ⊢
  refine ⟨Store.wf_set h.1 hy row, fun e he => ?_⟩
  unfold Fb.writeRow Store.set at he
  by_cases hr : row = Fb.blankRow
  · rw [if_pos hr] at he; exact h.2 e (Store.mem_erase he)
  · rw [if_neg hr] at he
    rcases Store.mem_insert he with rfl | he
    · exact hrow
    · exact h.2 e (Store.mem_erase he)

end Sys2Proof.Machine
end

