-- ==== Sys2Proof/Laws/Ops.lean ====
section
/-! SUPPORT. One spec lemma per shared operation: registers, memory, the stack, taking an interrupt and returning
from one. -/

namespace Sys2Proof

/-! ### Words and their bytes (R63) -/

/-- The value of a pair of bytes: the second byte counts 256 (R63). -/
theorem wordOfBytes_toNat (lo hi : Byte) : (wordOfBytes lo hi).toNat = lo.toNat + 256 * hi.toNat := by
  rw [wordOfBytes, BitVec.toNat_append, Nat.shiftLeft_eq, Nat.mul_comm,
    ← Nat.two_pow_add_eq_or_of_lt lo.isLt]
  omega

theorem loByte_toNat (v : Word) : (loByte v).toNat = v.toNat % 256 := by
  simp [loByte]

theorem hiByte_toNat (v : Word) : (hiByte v).toNat = v.toNat / 256 := by
  have := v.isLt
  simp only [hiByte, BitVec.extractLsb'_toNat, Nat.shiftRight_eq_div_pow]
  omega

@[simp] theorem wordOfBytes_lo_hi (v : Word) : wordOfBytes (loByte v) (hiByte v) = v := by
  apply BitVec.eq_of_toNat_eq
  rw [wordOfBytes_toNat, loByte_toNat, hiByte_toNat]
  omega

@[simp] theorem loByte_wordOfBytes (lo hi : Byte) : loByte (wordOfBytes lo hi) = lo := by
  apply BitVec.eq_of_toNat_eq
  rw [loByte_toNat, wordOfBytes_toNat]
  omega

@[simp] theorem hiByte_wordOfBytes (lo hi : Byte) : hiByte (wordOfBytes lo hi) = hi := by
  apply BitVec.eq_of_toNat_eq
  rw [hiByte_toNat, wordOfBytes_toNat]
  omega

namespace Machine

/-! ### Registers (R10, R21) -/

/-- A register written reads as written; every other register reads as before. -/
theorem Bank.get_set (b : Bank) (q r : Reg8) (v : Byte) : (b.set q v).get r = if r = q then v else b.get r := by
  cases q <;> cases r <;> rfl

@[simp] theorem Bank.set_f (b : Bank) (q : Reg8) (v : Byte) : (b.set q v).f = b.f := by cases q <;> rfl
@[simp] theorem Bank.setBc_f (b : Bank) (v : Word) : (b.setBc v).f = b.f := rfl
@[simp] theorem Bank.setDe_f (b : Bank) (v : Word) : (b.setDe v).f = b.f := rfl
@[simp] theorem Bank.setHl_f (b : Bank) (v : Word) : (b.setHl v).f = b.f := rfl
@[simp] theorem Bank.setBc_a (b : Bank) (v : Word) : (b.setBc v).a = b.a := rfl
@[simp] theorem Bank.setDe_a (b : Bank) (v : Word) : (b.setDe v).a = b.a := rfl
@[simp] theorem Bank.setHl_a (b : Bank) (v : Word) : (b.setHl v).a = b.a := rfl

/-- The pairs are their two halves (R21). -/
theorem Bank.bc_eq (b : Bank) : b.bc = wordOfBytes b.c b.b := rfl
theorem Bank.de_eq (b : Bank) : b.de = wordOfBytes b.e b.d := rfl
theorem Bank.hl_eq (b : Bank) : b.hl = wordOfBytes b.l b.h := rfl
theorem Bank.af_eq (b : Bank) : b.af = wordOfBytes b.f.toByte b.a := rfl

/-- A pair written reads as written, and leaves the other pairs. -/
@[simp] theorem Bank.setBc_bc (b : Bank) (v : Word) : (b.setBc v).bc = v := wordOfBytes_lo_hi v
@[simp] theorem Bank.setDe_de (b : Bank) (v : Word) : (b.setDe v).de = v := wordOfBytes_lo_hi v
@[simp] theorem Bank.setHl_hl (b : Bank) (v : Word) : (b.setHl v).hl = v := wordOfBytes_lo_hi v
@[simp] theorem Bank.setBc_de (b : Bank) (v : Word) : (b.setBc v).de = b.de := rfl
@[simp] theorem Bank.setBc_hl (b : Bank) (v : Word) : (b.setBc v).hl = b.hl := rfl
@[simp] theorem Bank.setDe_bc (b : Bank) (v : Word) : (b.setDe v).bc = b.bc := rfl
@[simp] theorem Bank.setDe_hl (b : Bank) (v : Word) : (b.setDe v).hl = b.hl := rfl
@[simp] theorem Bank.setHl_bc (b : Bank) (v : Word) : (b.setHl v).bc = b.bc := rfl
@[simp] theorem Bank.setHl_de (b : Bank) (v : Word) : (b.setHl v).de = b.de := rfl

/-- F is a byte and back (R28): no bit is lost either way. -/
@[simp] theorem Flags.ofByte_toByte (f : Flags) : Flags.ofByte f.toByte = f := by
  obtain ⟨s, z, f5, h, f3, p, n, c⟩ := f
  revert s z f5 h f3 p n c
  decide

@[simp] theorem Flags.toByte_ofByte (v : Byte) : (Flags.ofByte v).toByte = v := by
  revert v
  decide

@[simp] theorem Bank.setAf_af (b : Bank) (v : Word) : (b.setAf v).af = v := by
  rw [Bank.af_eq]
  simp [Bank.setAf]

/-! ### Memory (R11, R62, R63) -/

/-- A read depends on memory alone. -/
theorem State.rd_of_mem {s t : State} (h : t.mem = s.mem) (x : Word) : t.rd x = s.rd x := by
  rw [State.rd, h, State.rd]

/-- R62: a byte read after a byte written, with the default `Mem`. -/
theorem State.rd_wr {s : State} (hf : s.mem.isFlat = true) (a : Word) (v : Byte) (x : Word) :
    (s.wr a v).rd x = if x = a then v else s.rd x :=
  Mem.read_write hf a v x

theorem State.rd_wr_same {s : State} (hf : s.mem.isFlat = true) (a : Word) (v : Byte) : (s.wr a v).rd a = v := by
  simp [State.rd_wr hf]

theorem State.rd_wr_other {s : State} (hf : s.mem.isFlat = true) (a : Word) (v : Byte) {x : Word} (h : x ≠ a) :
    (s.wr a v).rd x = s.rd x := by
  simp [State.rd_wr hf, h]

/-- R65: a read changes nothing with the default `Mem`. -/
theorem State.afterRd_of_isFlat {s : State} (hf : s.mem.isFlat = true) (a : Word) : s.afterRd a = s := by
  rw [State.afterRd, Mem.afterRead_of_isFlat hf]

theorem State.afterRd16_of_isFlat {s : State} (hf : s.mem.isFlat = true) (a : Word) : s.afterRd16 a = s := by
  rw [State.afterRd16, State.afterRd_of_isFlat hf, State.afterRd_of_isFlat hf]

/-- R63: a 16-bit read with the default `Mem`. -/
theorem State.rd16_of_isFlat {s : State} (hf : s.mem.isFlat = true) (a : Word) :
    s.rd16 a = wordOfBytes (s.rd a) (s.rd (a + 1)) := by
  rw [State.rd16, State.afterRd_of_isFlat hf]

/-- R12: fetches with the default `Mem` only move PC. -/
theorem State.skip_of_isFlat {s : State} (hf : s.mem.isFlat = true) (n : Nat) :
    s.skip n = { s with pc := s.pc + BitVec.ofNat 16 n } := by
  rw [State.skip, Mem.afterFetches_of_isFlat hf]

theorem State.fetchByte_of_isFlat {s : State} (hf : s.mem.isFlat = true) (n : Nat) :
    s.fetchByte n = s.rd (s.pc + BitVec.ofNat 16 n) := by
  rw [State.fetchByte, State.skip_of_isFlat hf]
  rfl

/-- R12: fetches add up. -/
theorem State.skip_skip (s : State) (n k : Nat) : (s.skip n).skip k = s.skip (n + k) := by
  simp only [State.skip, Mem.afterFetches_add, BitVec.ofNat_add, BitVec.add_assoc]

theorem State.skip_zero (s : State) : s.skip 0 = s := by
  simp only [State.skip, Mem.afterFetches, BitVec.add_zero]

/-- An address and the one after it differ. -/
theorem Word.add_one_ne (a : Word) : a + 1 ≠ a := by
  simp

/-- R63: a 16-bit store puts the low byte at `a` and the high byte at `a + 1`, and leaves every other byte. -/
theorem State.rd_wr16 {s : State} (hf : s.mem.isFlat = true) (a v x : Word) :
    (s.wr16 a v).rd x = if x = a + 1 then hiByte v else if x = a then loByte v else s.rd x := by
  have hf' : (s.wr a (loByte v)).mem.isFlat = true := by simp [hf]
  rw [State.wr16, State.rd_wr hf', State.rd_wr hf]

/-- A 16-bit store changes memory only. -/
theorem State.wr16_eq (s : State) (a v : Word) : s.wr16 a v = { s with mem := (s.wr16 a v).mem } := rfl

theorem Word.sub_one_ne_sub_two (a : Word) : a - 1 ≠ a - 2 := by
  bv_omega

/-- R13: a push stores the high byte at SP-1 and the low byte at SP-2, and leaves every other byte. -/
theorem State.rd_push16 {s : State} (hf : s.mem.isFlat = true) (v x : Word) :
    (s.push16 v).rd x = if x = s.sp - 2 then loByte v else if x = s.sp - 1 then hiByte v else s.rd x := by
  have h : (s.push16 v).rd x = ((s.wr (s.sp - 1) (hiByte v)).wr (s.sp - 2) (loByte v)).rd x := rfl
  have hf' : (s.wr (s.sp - 1) (hiByte v)).mem.isFlat = true := by simp [hf]
  rw [h, State.rd_wr hf', State.rd_wr hf]

/-- R13: a push changes memory and SP only. -/
theorem State.push16_eq (s : State) (v : Word) :
    s.push16 v = { s with mem := (s.push16 v).mem, sp := s.sp - 2 } := rfl

/-- R13: what was pushed is what is popped, and SP comes back. -/
theorem State.popped_push16 {s : State} (hf : s.mem.isFlat = true) (v : Word) : (s.push16 v).popped = v := by
  have hf' : (s.push16 v).mem.isFlat = true := by simp [State.push16, hf]
  have h1 : (s.push16 v).popped = (s.push16 v).rd16 (s.sp - 2) := rfl
  have h2 : s.sp - 2 + 1 = s.sp - 1 := by bv_omega
  rw [h1, State.rd16_of_isFlat hf', h2, State.rd_push16 hf, State.rd_push16 hf, if_pos rfl,
    if_neg (Word.sub_one_ne_sub_two s.sp), if_pos rfl, wordOfBytes_lo_hi]

/-! ### Interrupt entry and return (R442, R443, R455) -/

/-- What both entries change: memory, SP, PC, the halt latch and IFF1. -/
theorem State.enterInterrupt_eq (s : State) (vector : Word) :
    s.enterInterrupt vector =
      { s with
        mem := (s.push16 s.pc).mem
        sp := s.sp - 2
        halted := false
        pc := vector
        iff1 := false } := rfl

/-- NMI entry in full (R442). -/
theorem State.takeNmi_eq (s : State) :
    s.takeNmi =
      { s with
        mem := (s.push16 s.pc).mem
        sp := s.sp - 2
        halted := false
        pc := 0x0066#16
        iff1 := false
        nmiPending := false } := by
  rw [State.takeNmi, State.enterInterrupt_eq]

/-- Maskable entry in full (R443). -/
theorem State.takeInt_eq (s : State) :
    s.takeInt =
      { s with
        mem := (s.push16 s.pc).mem
        sp := s.sp - 2
        halted := false
        pc := 0x0038#16
        iff1 := false
        iff2 := false
        intPending := false } := by
  rw [State.takeInt, State.enterInterrupt_eq]

/-- What is popped from a memory into which `v` has been pushed, SP down by two. -/
theorem State.popped_of_push {s t : State} {v : Word} (hf : s.mem.isFlat = true)
    (hm : t.mem = (s.push16 v).mem) (hs : t.sp = s.sp - 2) : t.popped = v := by
  rw [← State.popped_push16 hf v]
  unfold State.popped State.rd16 State.afterRd State.rd
  rw [hm, hs]
  rfl

/-- A return reads the word at SP and changes PC and SP only. -/
theorem State.popPc_eq (s : State) :
    s.popPc = { s.afterRd16 s.sp with pc := s.popped, sp := s.sp + 2 } := rfl

theorem State.returnFromInterrupt_eq (s : State) :
    s.returnFromInterrupt = { s.afterRd16 s.sp with pc := s.popped, sp := s.sp + 2, iff1 := s.iff2 } := rfl

/-! ### R (R27) -/

/-- The end of a step leaves bit 7 of R as it is. -/
theorem State.refreshR_bit7 (s : State) : s.refreshR.r.getLsbD 7 = s.r.getLsbD 7 := by
  show (s.r.extractLsb' 7 1 ++ Config.refresh s.draws).getLsbD 7 = _
  rw [BitVec.getLsbD_append, if_neg (by decide), BitVec.getLsbD_extractLsb']
  rfl

/-! ### The canonical form of memory -/

theorem State.wf_wr {s : State} (h : s.mem.wf = true) (a : Word) (v : Byte) : (s.wr a v).mem.wf = true :=
  Mem.wf_write h a v

theorem State.wf_wr16 {s : State} (h : s.mem.wf = true) (a v : Word) : (s.wr16 a v).mem.wf = true :=
  State.wf_wr (s := s.wr a (loByte v)) (State.wf_wr h a (loByte v)) (a + 1) (hiByte v)

theorem State.wf_push16 {s : State} (h : s.mem.wf = true) (v : Word) : (s.push16 v).mem.wf = true :=
  State.wf_wr (s := s.wr (s.sp - 1) (hiByte v)) (State.wf_wr h (s.sp - 1) (hiByte v)) (s.sp - 2) (loByte v)

theorem State.wf_afterRd {s : State} (h : s.mem.wf = true) (a : Word) : (s.afterRd a).mem.wf = true :=
  Mem.wf_afterRead h a

theorem State.wf_skip {s : State} (h : s.mem.wf = true) (n : Nat) : (s.skip n).mem.wf = true :=
  Mem.wf_afterFetches h s.pc n

/-- Memory right after reset is in canonical form. -/
theorem State.reset_mem_wf : State.reset.mem.wf = true := rfl

/-! ### Costs (R548) -/

/-- At the default table an instruction's two costs are its entry of R548's table. -/
theorem State.cost_of_default {s : State} (h : s.params.cost = defaultCost) (i : Instr) :
    s.cost i = (costOf defaultCost i).1 ∧ s.costElse i = (costOf defaultCost i).2 := by
  unfold State.cost State.costElse
  rw [h]
  exact ⟨rfl, rfl⟩

end Machine

end Sys2Proof
end

