-- ==== Sys2Proof/Laws/Operands.lean ====
section
/-! SUPPORT. One lemma per operand form and per port operation. -/

namespace Sys2Proof.Machine

/-! ### Registers and pairs as operands (R10) -/

/-- A write of an 8-bit register changes the main bank only. -/
theorem State.setR8_eq (s : State) (r : Reg8) (v : Byte) : s.setR8 r v = { s with main := s.main.set r v } := rfl

theorem State.r8_setR8 (s : State) (q r : Reg8) (v : Byte) : (s.setR8 q v).r8 r = if r = q then v else s.r8 r :=
  Bank.get_set s.main q r v

/-- A pair written reads as written; every other pair reads as before. -/
theorem State.pair_setPair (s : State) (p q : Pair) (v : Word) :
    (s.setPair p v).pair q = if q = p then v else s.pair q := by
  cases p <;> cases q <;>
    simp [State.setPair, State.pair, State.setBc, State.setDe, State.setHl, State.setSp]

/-- A pair written changes the main bank and SP only, and neither A nor F. -/
theorem State.setPair_eq (s : State) (p : Pair) (v : Word) :
    s.setPair p v = { s with main := (s.setPair p v).main, sp := (s.setPair p v).sp } := by
  cases p <;> rfl

theorem State.setPair_af (s : State) (p : Pair) (v : Word) :
    (s.setPair p v).main.a = s.main.a ∧ (s.setPair p v).main.f = s.main.f := by
  cases p <;> exact ⟨rfl, rfl⟩

/-- A stack pair written reads as written; every other stack pair reads as before. -/
theorem State.stackPair_setStackPair (s : State) (p q : StackPair) (v : Word) :
    (s.setStackPair p v).stackPair q = if q = p then v else s.stackPair q := by
  cases p <;> cases q <;>
    first
      | rfl
      | simp [State.setStackPair, State.stackPair, State.setBc, State.setDe, State.setHl]

/-- A stack pair written changes the main bank only. -/
theorem State.setStackPair_eq (s : State) (p : StackPair) (v : Word) :
    s.setStackPair p v = { s with main := (s.setStackPair p v).main } := by
  cases p <;> rfl

/-! ### Displacements, bits, repetition (R9, R95, R196, R374) -/

/-- `sext8(d)` is the byte read as a signed number, as a word. -/
theorem sext8_eq (d : Byte) : sext8 d = BitVec.ofInt 16 d.toInt := rfl

theorem bitMask_getLsbD (b : BitVec 3) (k : Nat) (hk : k < 8) : (bitMask b).getLsbD k = decide (k = b.toNat) := by
  have h : ∀ c : BitVec 3, ∀ j : Fin 8, (bitMask c).getLsbD j.val = decide (j.val = c.toNat) := by decide
  exact h b ⟨k, hk⟩

/-- The repeat mechanism changes PC and the T-states only. -/
theorem State.repeatIf_eq (s : State) (i : Instr) (again : Bool) :
    s.repeatIf i again =
      { s with
        pc := if again then s.pc - 2 else s.pc
        tStates := s.tStates + if again then s.cost i else s.costElse i } := by
  cases again <;> rfl

/-! ### The port bus (R66, R451, R489) -/

theorem Params.default_dataPort : Params.default.dataPort = 0xBE#8 := rfl

theorem Params.default_ctrlPort : Params.default.ctrlPort = 0xBF#8 := rfl

/-- The control port is the data port's odd neighbour, so the two differ. -/
theorem Params.ctrlPort_ne_dataPort (p : Params) : p.ctrlPort ≠ p.dataPort := by
  unfold Params.ctrlPort Params.dataPort
  generalize p.vdpPort = v
  revert v
  decide

/-- Everything a port read instruction can do: go on with the data byte, with the status or with a device's byte, or
raise InvalidPort. -/
theorem State.inThen_cases (s : State) (hi lo : Byte) (k : Byte → State → State) :
    (lo = s.params.dataPort ∧
        s.inThen hi lo k = .next (k s.vdp.readbuf { s with vdp := s.vdp.afterReadData })) ∨
      (lo = s.params.ctrlPort ∧
        s.inThen hi lo k = .next (k s.vdp.status { s with vdp := s.vdp.afterReadControl })) ∨
      (lo ≠ s.params.dataPort ∧ lo ≠ s.params.ctrlPort ∧ s.params.readPorts.contains lo = true ∧
        s.inThen hi lo k = .next (k (Config.deviceByte lo s.draws) { s with draws := s.draws + 1 })) ∨
      (lo ≠ s.params.dataPort ∧ lo ≠ s.params.ctrlPort ∧ s.params.readPorts.contains lo = false ∧
        s.inThen hi lo k = .next { s with fault := some (.invalidPort lo) }) := by
  unfold State.inThen State.portRead
  by_cases h1 : lo = s.params.dataPort
  · rw [if_pos h1]
    exact .inl ⟨h1, rfl⟩
  · by_cases h2 : lo = s.params.ctrlPort
    · rw [if_neg h1, if_pos h2]
      exact .inr (.inl ⟨h2, rfl⟩)
    · rw [if_neg h1, if_neg h2]
      cases h3 : s.params.readPorts.contains lo
      · exact .inr (.inr (.inr ⟨h1, h2, rfl, rfl⟩))
      · exact .inr (.inr (.inl ⟨h1, h2, rfl, rfl⟩))

/-- Everything a port write instruction can do: go on after a data write, after a control write or after a write to a
device, or raise InvalidPort. -/
theorem State.outThen_cases (s : State) (hi lo v : Byte) (k : State → State) :
    (lo = s.params.dataPort ∧ s.outThen hi lo v k = .next (k { s with vdp := s.vdp.writeData v })) ∨
      (lo = s.params.ctrlPort ∧ s.outThen hi lo v k = .next (k { s with vdp := s.vdp.writeControl v })) ∨
      (lo ≠ s.params.dataPort ∧ lo ≠ s.params.ctrlPort ∧ s.params.writePorts.contains lo = true ∧
        s.outThen hi lo v k = .next (k s)) ∨
      (lo ≠ s.params.dataPort ∧ lo ≠ s.params.ctrlPort ∧ s.params.writePorts.contains lo = false ∧
        s.outThen hi lo v k = .next { s with fault := some (.invalidPort lo) }) := by
  unfold State.outThen State.portWrite
  by_cases h1 : lo = s.params.dataPort
  · rw [if_pos h1]
    exact .inl ⟨h1, rfl⟩
  · by_cases h2 : lo = s.params.ctrlPort
    · rw [if_neg h1, if_pos h2]
      exact .inr (.inl ⟨h2, rfl⟩)
    · rw [if_neg h1, if_neg h2]
      cases h3 : s.params.writePorts.contains lo
      · exact .inr (.inr (.inr ⟨h1, h2, rfl, rfl⟩))
      · exact .inr (.inr (.inl ⟨h1, h2, rfl, rfl⟩))

end Sys2Proof.Machine
end

