-- ==== Sys2Proof/Laws/Nested.lean ====
section
/-! SUPPORT. The nested step of EI: `exec` is the dispatch table of Machine/Nested.lean, and one lemma says everything
a CPU step can do. -/

namespace Sys2Proof.Machine

/-- `exec` is the dispatch table with the nested step at the full bound. -/
theorem exec_eq_runInstr (i : Instr) (s : State) :
    exec i s = runInstr (cpuStepFuel Config.eiNestingBound) i s := by
  cases i <;> rfl

/-- Only EI looks at the nested step. -/
theorem runInstr_of_ne_ei (nested : State → Out) {i : Instr} (h : i ≠ .ei) (s : State) :
    runInstr nested i s = exec i s := by
  cases i <;> first | rfl | exact absurd rfl h

/-- The machine's step is the bounded one at the full bound. -/
theorem cpuStep_eq (s : State) : cpuStep s = cpuStepFuel (Config.eiNestingBound + 1) s := by
  show cpuStepWith exec s = cpuStepWith (runInstr (cpuStepFuel Config.eiNestingBound)) s
  unfold cpuStepWith
  rw [exec_eq_runInstr]

theorem cpuStepFuel_zero (s : State) : cpuStepFuel 0 s = .fault .eiRunaway := rfl

theorem cpuStepFuel_succ (n : Nat) (s : State) :
    cpuStepFuel (n + 1) s = cpuStepWith (runInstr (cpuStepFuel n)) s := rfl

/-- A mapped outcome is a next state exactly when the outcome is one. -/
theorem Out.mapNext_eq_next {f : State → State} {o : Out} {t : State} :
    Out.mapNext f o = .next t ↔ ∃ u, o = .next u ∧ f u = t := by
  cases o <;> simp [Out.mapNext]

/-- A maskable request is accepted here: mode 1, enabled, and no NMI before it (R441, R443). -/
def State.accepts (s : State) : Prop := s.intPending = true ∧ s.im = .im1 ∧ s.iff1 = true

theorem State.accepts_iff (s : State) : (s.intPending && s.im == .im1 && s.iff1) = true ↔ s.accepts := by
  simp [State.accepts, and_assoc]

/-- The step's four cases (R441). -/
theorem cpuStepWith_cases (ex : Instr → State → Out) (s : State) :
    (s.nmiPending = true ∧ cpuStepWith ex s = .next s.takeNmi.refreshR) ∨
      (s.nmiPending = false ∧ s.accepts ∧ cpuStepWith ex s = .next s.takeInt.refreshR) ∨
      (s.nmiPending = false ∧ ¬s.accepts ∧ s.halted = true ∧ cpuStepWith ex s = .next (s.addT 4).refreshR) ∨
      (s.nmiPending = false ∧ ¬s.accepts ∧ s.halted = false ∧
        cpuStepWith ex s = Out.mapNext State.refreshR (ex s.fetchInstr (s.skip s.fetchInstr.size))) := by
  unfold cpuStepWith
  cases hn : s.nmiPending
  · by_cases ha : s.accepts
    · rw [if_pos ((State.accepts_iff s).mpr ha)]
      exact .inr (.inl ⟨rfl, ha, rfl⟩)
    · rw [if_neg (fun h => ha ((State.accepts_iff s).mp h))]
      cases hh : s.halted
      · exact .inr (.inr (.inr ⟨rfl, ha, rfl, rfl⟩))
      · exact .inr (.inr (.inl ⟨rfl, ha, rfl, rfl⟩))
  · exact .inl ⟨rfl, rfl⟩

/-- What EI's nested step leaves, with both flip-flops set unless it raised. -/
theorem eiWith_eq_next {nested : State → Out} {s t : State} (h : eiWith nested s = .next t) :
    ∃ u, nested (s.addT (s.cost .ei)) = .next u ∧
      ((u.fault.isSome = true ∧ t = u) ∨ (u.fault.isSome = false ∧ t = { u with iff1 := true, iff2 := true })) := by
  unfold eiWith at h
  split at h
  · rename_i u hu
    cases hf : u.fault.isSome <;> rw [hf] at h <;> injection h with h
    · exact ⟨u, hu, .inr ⟨hf, h.symm⟩⟩
    · exact ⟨u, hu, .inl ⟨hf, h.symm⟩⟩
  · cases h
  · cases h

/-- Everything a CPU step can do: a relation between the state before and the state after holds of every step when it
holds of NMI entry, of maskable entry, of the idle step, of one instruction other than EI, and of an EI whose nested
step it holds of. -/
theorem cpuStepFuel_induction {P : State → State → Prop}
    (nmi : ∀ s, s.nmiPending = true → P s s.takeNmi.refreshR)
    (int : ∀ s, s.nmiPending = false → s.accepts → P s s.takeInt.refreshR)
    (idle : ∀ s, s.nmiPending = false → ¬s.accepts → s.halted = true → P s (s.addT 4).refreshR)
    (instr : ∀ s t, s.nmiPending = false → ¬s.accepts → s.halted = false → s.fetchInstr ≠ .ei →
      exec s.fetchInstr (s.skip s.fetchInstr.size) = .next t → P s t.refreshR)
    (ei : ∀ s u, s.nmiPending = false → ¬s.accepts → s.halted = false → s.fetchInstr = .ei →
      P ((s.skip 1).addT ((s.skip 1).cost .ei)) u →
        (u.fault.isSome = true → P s u.refreshR) ∧
          (u.fault.isSome = false → P s ({ u with iff1 := true, iff2 := true } : State).refreshR)) :
    ∀ (n : Nat) (s t : State), cpuStepFuel n s = .next t → P s t := by
  intro n
  induction n with
  | zero => intro s t h; cases h
  | succ n ih =>
    intro s t h
    rw [cpuStepFuel_succ] at h
    rcases cpuStepWith_cases (runInstr (cpuStepFuel n)) s with
      ⟨h1, e⟩ | ⟨h1, h2, e⟩ | ⟨h1, h2, h3, e⟩ | ⟨h1, h2, h3, e⟩
    · rw [e] at h; injection h with h; subst h; exact nmi s h1
    · rw [e] at h; injection h with h; subst h; exact int s h1 h2
    · rw [e] at h; injection h with h; subst h; exact idle s h1 h2 h3
    · rw [e, Out.mapNext_eq_next] at h
      obtain ⟨u, hu, rfl⟩ := h
      by_cases hi : s.fetchInstr = .ei
      · rw [hi] at hu
        obtain ⟨v, hv, h⟩ := eiWith_eq_next (nested := cpuStepFuel n) (s := s.skip 1) hu
        have hp := ei s v h1 h2 h3 hi (ih _ _ hv)
        rcases h with ⟨hf, rfl⟩ | ⟨hf, rfl⟩
        · exact hp.1 hf
        · exact hp.2 hf
      · rw [runInstr_of_ne_ei _ hi] at hu
        exact instr s u h1 h2 h3 hi hu

end Sys2Proof.Machine
end

