-- ==== Sys2Proof/Laws/PerInstr.lean ====
section
/-! SUPPORT. Statements made once per instruction, about the instruction as syntax (LAWS.json). -/

/-- An instruction's encoding has one to four bytes, as many as the step fetches for it (R91, R104). -/
def Sys2Proof.Laws.EncodedSize.Statement (i : Sys2Proof.Instr) : Prop :=
  1 ≤ i.size ∧ i.size ≤ 4 ∧ (Sys2Proof.encode i).length = i.size

namespace Sys2Proof.Laws.EncodedSize

open Sys2Proof

/-- A size from 1 to 4 and an encoding of as many bytes. -/
theorem of_size {i : Instr} (n : Nat) (hs : i.size = n) (h1 : 1 ≤ n) (h4 : n ≤ 4) (hl : (encode i).length = n) :
    Statement i :=
  ⟨hs ▸ h1, hs ▸ h4, hl.trans hs.symm⟩

theorem nop : Statement .nop := of_size 1 rfl (by decide) (by decide) rfl
theorem exAfAf : Statement .exAfAf := of_size 1 rfl (by decide) (by decide) rfl
theorem djnzE (e : Byte) : Statement (.djnzE e) := of_size 2 rfl (by decide) (by decide) rfl
theorem jrE (e : Byte) : Statement (.jrE e) := of_size 2 rfl (by decide) (by decide) rfl
theorem jrNzE (e : Byte) : Statement (.jrNzE e) := of_size 2 rfl (by decide) (by decide) rfl
theorem jrZE (e : Byte) : Statement (.jrZE e) := of_size 2 rfl (by decide) (by decide) rfl
theorem jrNcE (e : Byte) : Statement (.jrNcE e) := of_size 2 rfl (by decide) (by decide) rfl
theorem jrCE (e : Byte) : Statement (.jrCE e) := of_size 2 rfl (by decide) (by decide) rfl
theorem ldDdNn (dd : Pair) (nn : Word) : Statement (.ldDdNn dd nn) := of_size 3 rfl (by decide) (by decide) rfl
theorem addHlSs (ss : Pair) : Statement (.addHlSs ss) := of_size 1 rfl (by decide) (by decide) rfl
theorem ldIndBcA : Statement .ldIndBcA := of_size 1 rfl (by decide) (by decide) rfl
theorem ldAIndBc : Statement .ldAIndBc := of_size 1 rfl (by decide) (by decide) rfl
theorem ldIndDeA : Statement .ldIndDeA := of_size 1 rfl (by decide) (by decide) rfl
theorem ldAIndDe : Statement .ldAIndDe := of_size 1 rfl (by decide) (by decide) rfl
theorem ldIndNnHl (nn : Word) : Statement (.ldIndNnHl nn) := of_size 3 rfl (by decide) (by decide) rfl
theorem ldHlIndNn (nn : Word) : Statement (.ldHlIndNn nn) := of_size 3 rfl (by decide) (by decide) rfl
theorem ldIndNnA (nn : Word) : Statement (.ldIndNnA nn) := of_size 3 rfl (by decide) (by decide) rfl
theorem ldAIndNn (nn : Word) : Statement (.ldAIndNn nn) := of_size 3 rfl (by decide) (by decide) rfl
theorem incSs (ss : Pair) : Statement (.incSs ss) := of_size 1 rfl (by decide) (by decide) rfl
theorem decSs (ss : Pair) : Statement (.decSs ss) := of_size 1 rfl (by decide) (by decide) rfl
theorem incR (r : Reg8) : Statement (.incR r) := of_size 1 rfl (by decide) (by decide) rfl
theorem incIndHl : Statement .incIndHl := of_size 1 rfl (by decide) (by decide) rfl
theorem decR (r : Reg8) : Statement (.decR r) := of_size 1 rfl (by decide) (by decide) rfl
theorem decIndHl : Statement .decIndHl := of_size 1 rfl (by decide) (by decide) rfl
theorem ldRN (r : Reg8) (n : Byte) : Statement (.ldRN r n) := of_size 2 rfl (by decide) (by decide) rfl
theorem ldIndHlN (n : Byte) : Statement (.ldIndHlN n) := of_size 2 rfl (by decide) (by decide) rfl
theorem rlca : Statement .rlca := of_size 1 rfl (by decide) (by decide) rfl
theorem rrca : Statement .rrca := of_size 1 rfl (by decide) (by decide) rfl
theorem rla : Statement .rla := of_size 1 rfl (by decide) (by decide) rfl
theorem rra : Statement .rra := of_size 1 rfl (by decide) (by decide) rfl
theorem daa : Statement .daa := of_size 1 rfl (by decide) (by decide) rfl
theorem cpl : Statement .cpl := of_size 1 rfl (by decide) (by decide) rfl
theorem scf : Statement .scf := of_size 1 rfl (by decide) (by decide) rfl
theorem ccf : Statement .ccf := of_size 1 rfl (by decide) (by decide) rfl
theorem ldRR (r : Reg8) (r' : Reg8) : Statement (.ldRR r r') := of_size 1 rfl (by decide) (by decide) rfl
theorem ldRIndHl (r : Reg8) : Statement (.ldRIndHl r) := of_size 1 rfl (by decide) (by decide) rfl
theorem ldIndHlR (r : Reg8) : Statement (.ldIndHlR r) := of_size 1 rfl (by decide) (by decide) rfl
theorem halt : Statement .halt := of_size 1 rfl (by decide) (by decide) rfl
theorem addAR (r : Reg8) : Statement (.addAR r) := of_size 1 rfl (by decide) (by decide) rfl
theorem addAN (n : Byte) : Statement (.addAN n) := of_size 2 rfl (by decide) (by decide) rfl
theorem addAIndHl : Statement .addAIndHl := of_size 1 rfl (by decide) (by decide) rfl
theorem adcAR (r : Reg8) : Statement (.adcAR r) := of_size 1 rfl (by decide) (by decide) rfl
theorem adcAN (n : Byte) : Statement (.adcAN n) := of_size 2 rfl (by decide) (by decide) rfl
theorem adcAIndHl : Statement .adcAIndHl := of_size 1 rfl (by decide) (by decide) rfl
theorem subR (r : Reg8) : Statement (.subR r) := of_size 1 rfl (by decide) (by decide) rfl
theorem subN (n : Byte) : Statement (.subN n) := of_size 2 rfl (by decide) (by decide) rfl
theorem subIndHl : Statement .subIndHl := of_size 1 rfl (by decide) (by decide) rfl
theorem sbcAR (r : Reg8) : Statement (.sbcAR r) := of_size 1 rfl (by decide) (by decide) rfl
theorem sbcAN (n : Byte) : Statement (.sbcAN n) := of_size 2 rfl (by decide) (by decide) rfl
theorem sbcAIndHl : Statement .sbcAIndHl := of_size 1 rfl (by decide) (by decide) rfl
theorem andR (r : Reg8) : Statement (.andR r) := of_size 1 rfl (by decide) (by decide) rfl
theorem andN (n : Byte) : Statement (.andN n) := of_size 2 rfl (by decide) (by decide) rfl
theorem andIndHl : Statement .andIndHl := of_size 1 rfl (by decide) (by decide) rfl
theorem xorR (r : Reg8) : Statement (.xorR r) := of_size 1 rfl (by decide) (by decide) rfl
theorem xorN (n : Byte) : Statement (.xorN n) := of_size 2 rfl (by decide) (by decide) rfl
theorem xorIndHl : Statement .xorIndHl := of_size 1 rfl (by decide) (by decide) rfl
theorem orR (r : Reg8) : Statement (.orR r) := of_size 1 rfl (by decide) (by decide) rfl
theorem orN (n : Byte) : Statement (.orN n) := of_size 2 rfl (by decide) (by decide) rfl
theorem orIndHl : Statement .orIndHl := of_size 1 rfl (by decide) (by decide) rfl
theorem cpR (r : Reg8) : Statement (.cpR r) := of_size 1 rfl (by decide) (by decide) rfl
theorem cpN (n : Byte) : Statement (.cpN n) := of_size 2 rfl (by decide) (by decide) rfl
theorem cpIndHl : Statement .cpIndHl := of_size 1 rfl (by decide) (by decide) rfl
theorem retCc (cc : Cond) : Statement (.retCc cc) := of_size 1 rfl (by decide) (by decide) rfl
theorem popQq (qq : StackPair) : Statement (.popQq qq) := of_size 1 rfl (by decide) (by decide) rfl
theorem ret : Statement .ret := of_size 1 rfl (by decide) (by decide) rfl
theorem exx : Statement .exx := of_size 1 rfl (by decide) (by decide) rfl
theorem jpIndHl : Statement .jpIndHl := of_size 1 rfl (by decide) (by decide) rfl
theorem ldSpHl : Statement .ldSpHl := of_size 1 rfl (by decide) (by decide) rfl
theorem jpCcNn (cc : Cond) (nn : Word) : Statement (.jpCcNn cc nn) := of_size 3 rfl (by decide) (by decide) rfl
theorem jpNn (nn : Word) : Statement (.jpNn nn) := of_size 3 rfl (by decide) (by decide) rfl
theorem outPortNA (n : Byte) : Statement (.outPortNA n) := of_size 2 rfl (by decide) (by decide) rfl
theorem inAPortN (n : Byte) : Statement (.inAPortN n) := of_size 2 rfl (by decide) (by decide) rfl
theorem exIndSpHl : Statement .exIndSpHl := of_size 1 rfl (by decide) (by decide) rfl
theorem exDeHl : Statement .exDeHl := of_size 1 rfl (by decide) (by decide) rfl
theorem di : Statement .di := of_size 1 rfl (by decide) (by decide) rfl
theorem ei : Statement .ei := of_size 1 rfl (by decide) (by decide) rfl
theorem callCcNn (cc : Cond) (nn : Word) : Statement (.callCcNn cc nn) := of_size 3 rfl (by decide) (by decide) rfl
theorem pushQq (qq : StackPair) : Statement (.pushQq qq) := of_size 1 rfl (by decide) (by decide) rfl
theorem callNn (nn : Word) : Statement (.callNn nn) := of_size 3 rfl (by decide) (by decide) rfl
theorem rstP (t : BitVec 3) : Statement (.rstP t) := of_size 1 rfl (by decide) (by decide) rfl
theorem rlcR (r : Reg8) : Statement (.rlcR r) := of_size 2 rfl (by decide) (by decide) rfl
theorem rlcIndHl : Statement .rlcIndHl := of_size 2 rfl (by decide) (by decide) rfl
theorem rrcR (r : Reg8) : Statement (.rrcR r) := of_size 2 rfl (by decide) (by decide) rfl
theorem rrcIndHl : Statement .rrcIndHl := of_size 2 rfl (by decide) (by decide) rfl
theorem rlR (r : Reg8) : Statement (.rlR r) := of_size 2 rfl (by decide) (by decide) rfl
theorem rlIndHl : Statement .rlIndHl := of_size 2 rfl (by decide) (by decide) rfl
theorem rrR (r : Reg8) : Statement (.rrR r) := of_size 2 rfl (by decide) (by decide) rfl
theorem rrIndHl : Statement .rrIndHl := of_size 2 rfl (by decide) (by decide) rfl
theorem slaR (r : Reg8) : Statement (.slaR r) := of_size 2 rfl (by decide) (by decide) rfl
theorem slaIndHl : Statement .slaIndHl := of_size 2 rfl (by decide) (by decide) rfl
theorem sraR (r : Reg8) : Statement (.sraR r) := of_size 2 rfl (by decide) (by decide) rfl
theorem sraIndHl : Statement .sraIndHl := of_size 2 rfl (by decide) (by decide) rfl
theorem sllR (r : Reg8) : Statement (.sllR r) := of_size 2 rfl (by decide) (by decide) rfl
theorem sllIndHl : Statement .sllIndHl := of_size 2 rfl (by decide) (by decide) rfl
theorem srlR (r : Reg8) : Statement (.srlR r) := of_size 2 rfl (by decide) (by decide) rfl
theorem srlIndHl : Statement .srlIndHl := of_size 2 rfl (by decide) (by decide) rfl
theorem bitBR (b : BitVec 3) (r : Reg8) : Statement (.bitBR b r) := of_size 2 rfl (by decide) (by decide) rfl
theorem bitBIndHl (b : BitVec 3) : Statement (.bitBIndHl b) := of_size 2 rfl (by decide) (by decide) rfl
theorem resBR (b : BitVec 3) (r : Reg8) : Statement (.resBR b r) := of_size 2 rfl (by decide) (by decide) rfl
theorem resBIndHl (b : BitVec 3) : Statement (.resBIndHl b) := of_size 2 rfl (by decide) (by decide) rfl
theorem setBR (b : BitVec 3) (r : Reg8) : Statement (.setBR b r) := of_size 2 rfl (by decide) (by decide) rfl
theorem setBIndHl (b : BitVec 3) : Statement (.setBIndHl b) := of_size 2 rfl (by decide) (by decide) rfl
theorem inRPortC (r : Reg8) : Statement (.inRPortC r) := of_size 2 rfl (by decide) (by decide) rfl
theorem outPortCR (r : Reg8) : Statement (.outPortCR r) := of_size 2 rfl (by decide) (by decide) rfl
theorem sbcHlSs (ss : Pair) : Statement (.sbcHlSs ss) := of_size 2 rfl (by decide) (by decide) rfl
theorem adcHlSs (ss : Pair) : Statement (.adcHlSs ss) := of_size 2 rfl (by decide) (by decide) rfl
theorem ldIndNnDd (nn : Word) (dd : Pair) : Statement (.ldIndNnDd nn dd) := of_size 4 rfl (by decide) (by decide) rfl
theorem ldDdIndNn (dd : Pair) (nn : Word) : Statement (.ldDdIndNn dd nn) := of_size 4 rfl (by decide) (by decide) rfl
theorem neg : Statement .neg := of_size 2 rfl (by decide) (by decide) rfl
theorem retn : Statement .retn := of_size 2 rfl (by decide) (by decide) rfl
theorem reti : Statement .reti := of_size 2 rfl (by decide) (by decide) rfl
theorem im0 : Statement .im0 := of_size 2 rfl (by decide) (by decide) rfl
theorem im1 : Statement .im1 := of_size 2 rfl (by decide) (by decide) rfl
theorem im2 : Statement .im2 := of_size 2 rfl (by decide) (by decide) rfl
theorem ldIA : Statement .ldIA := of_size 2 rfl (by decide) (by decide) rfl
theorem ldRA : Statement .ldRA := of_size 2 rfl (by decide) (by decide) rfl
theorem ldAI : Statement .ldAI := of_size 2 rfl (by decide) (by decide) rfl
theorem ldAR : Statement .ldAR := of_size 2 rfl (by decide) (by decide) rfl
theorem rrd : Statement .rrd := of_size 2 rfl (by decide) (by decide) rfl
theorem rld : Statement .rld := of_size 2 rfl (by decide) (by decide) rfl
theorem ldi : Statement .ldi := of_size 2 rfl (by decide) (by decide) rfl
theorem cpi : Statement .cpi := of_size 2 rfl (by decide) (by decide) rfl
theorem ini : Statement .ini := of_size 2 rfl (by decide) (by decide) rfl
theorem outi : Statement .outi := of_size 2 rfl (by decide) (by decide) rfl
theorem ldd : Statement .ldd := of_size 2 rfl (by decide) (by decide) rfl
theorem cpd : Statement .cpd := of_size 2 rfl (by decide) (by decide) rfl
theorem ind : Statement .ind := of_size 2 rfl (by decide) (by decide) rfl
theorem outd : Statement .outd := of_size 2 rfl (by decide) (by decide) rfl
theorem ldir : Statement .ldir := of_size 2 rfl (by decide) (by decide) rfl
theorem cpir : Statement .cpir := of_size 2 rfl (by decide) (by decide) rfl
theorem inir : Statement .inir := of_size 2 rfl (by decide) (by decide) rfl
theorem otir : Statement .otir := of_size 2 rfl (by decide) (by decide) rfl
theorem lddr : Statement .lddr := of_size 2 rfl (by decide) (by decide) rfl
theorem cpdr : Statement .cpdr := of_size 2 rfl (by decide) (by decide) rfl
theorem indr : Statement .indr := of_size 2 rfl (by decide) (by decide) rfl
theorem otdr : Statement .otdr := of_size 2 rfl (by decide) (by decide) rfl
theorem addIxPp (pp : IxPair) : Statement (.addIxPp pp) := of_size 2 rfl (by decide) (by decide) rfl
theorem ldIxNn (nn : Word) : Statement (.ldIxNn nn) := of_size 4 rfl (by decide) (by decide) rfl
theorem ldIndNnIx (nn : Word) : Statement (.ldIndNnIx nn) := of_size 4 rfl (by decide) (by decide) rfl
theorem incIx : Statement .incIx := of_size 2 rfl (by decide) (by decide) rfl
theorem ldIxIndNn (nn : Word) : Statement (.ldIxIndNn nn) := of_size 4 rfl (by decide) (by decide) rfl
theorem decIx : Statement .decIx := of_size 2 rfl (by decide) (by decide) rfl
theorem incIxd (d : Byte) : Statement (.incIxd d) := of_size 3 rfl (by decide) (by decide) rfl
theorem decIxd (d : Byte) : Statement (.decIxd d) := of_size 3 rfl (by decide) (by decide) rfl
theorem ldIxdN (d : Byte) (n : Byte) : Statement (.ldIxdN d n) := of_size 4 rfl (by decide) (by decide) rfl
theorem ldRIxd (r : Reg8) (d : Byte) : Statement (.ldRIxd r d) := of_size 3 rfl (by decide) (by decide) rfl
theorem ldIxdR (d : Byte) (r : Reg8) : Statement (.ldIxdR d r) := of_size 3 rfl (by decide) (by decide) rfl
theorem addAIxd (d : Byte) : Statement (.addAIxd d) := of_size 3 rfl (by decide) (by decide) rfl
theorem adcAIxd (d : Byte) : Statement (.adcAIxd d) := of_size 3 rfl (by decide) (by decide) rfl
theorem subIxd (d : Byte) : Statement (.subIxd d) := of_size 3 rfl (by decide) (by decide) rfl
theorem sbcAIxd (d : Byte) : Statement (.sbcAIxd d) := of_size 3 rfl (by decide) (by decide) rfl
theorem andIxd (d : Byte) : Statement (.andIxd d) := of_size 3 rfl (by decide) (by decide) rfl
theorem xorIxd (d : Byte) : Statement (.xorIxd d) := of_size 3 rfl (by decide) (by decide) rfl
theorem orIxd (d : Byte) : Statement (.orIxd d) := of_size 3 rfl (by decide) (by decide) rfl
theorem cpIxd (d : Byte) : Statement (.cpIxd d) := of_size 3 rfl (by decide) (by decide) rfl
theorem popIx : Statement .popIx := of_size 2 rfl (by decide) (by decide) rfl
theorem exIndSpIx : Statement .exIndSpIx := of_size 2 rfl (by decide) (by decide) rfl
theorem pushIx : Statement .pushIx := of_size 2 rfl (by decide) (by decide) rfl
theorem jpIndIx : Statement .jpIndIx := of_size 2 rfl (by decide) (by decide) rfl
theorem ldSpIx : Statement .ldSpIx := of_size 2 rfl (by decide) (by decide) rfl
theorem rlcIxd (d : Byte) : Statement (.rlcIxd d) := of_size 4 rfl (by decide) (by decide) rfl
theorem rrcIxd (d : Byte) : Statement (.rrcIxd d) := of_size 4 rfl (by decide) (by decide) rfl
theorem rlIxd (d : Byte) : Statement (.rlIxd d) := of_size 4 rfl (by decide) (by decide) rfl
theorem rrIxd (d : Byte) : Statement (.rrIxd d) := of_size 4 rfl (by decide) (by decide) rfl
theorem slaIxd (d : Byte) : Statement (.slaIxd d) := of_size 4 rfl (by decide) (by decide) rfl
theorem sraIxd (d : Byte) : Statement (.sraIxd d) := of_size 4 rfl (by decide) (by decide) rfl
theorem sllIxd (d : Byte) : Statement (.sllIxd d) := of_size 4 rfl (by decide) (by decide) rfl
theorem srlIxd (d : Byte) : Statement (.srlIxd d) := of_size 4 rfl (by decide) (by decide) rfl
theorem bitBIxd (b : BitVec 3) (d : Byte) : Statement (.bitBIxd b d) := of_size 4 rfl (by decide) (by decide) rfl
theorem resBIxd (b : BitVec 3) (d : Byte) : Statement (.resBIxd b d) := of_size 4 rfl (by decide) (by decide) rfl
theorem setBIxd (b : BitVec 3) (d : Byte) : Statement (.setBIxd b d) := of_size 4 rfl (by decide) (by decide) rfl
theorem addIyRr (rr : IyPair) : Statement (.addIyRr rr) := of_size 2 rfl (by decide) (by decide) rfl
theorem ldIyNn (nn : Word) : Statement (.ldIyNn nn) := of_size 4 rfl (by decide) (by decide) rfl
theorem ldIndNnIy (nn : Word) : Statement (.ldIndNnIy nn) := of_size 4 rfl (by decide) (by decide) rfl
theorem incIy : Statement .incIy := of_size 2 rfl (by decide) (by decide) rfl
theorem ldIyIndNn (nn : Word) : Statement (.ldIyIndNn nn) := of_size 4 rfl (by decide) (by decide) rfl
theorem decIy : Statement .decIy := of_size 2 rfl (by decide) (by decide) rfl
theorem incIyd (d : Byte) : Statement (.incIyd d) := of_size 3 rfl (by decide) (by decide) rfl
theorem decIyd (d : Byte) : Statement (.decIyd d) := of_size 3 rfl (by decide) (by decide) rfl
theorem ldIydN (d : Byte) (n : Byte) : Statement (.ldIydN d n) := of_size 4 rfl (by decide) (by decide) rfl
theorem ldRIyd (r : Reg8) (d : Byte) : Statement (.ldRIyd r d) := of_size 3 rfl (by decide) (by decide) rfl
theorem ldIydR (d : Byte) (r : Reg8) : Statement (.ldIydR d r) := of_size 3 rfl (by decide) (by decide) rfl
theorem addAIyd (d : Byte) : Statement (.addAIyd d) := of_size 3 rfl (by decide) (by decide) rfl
theorem adcAIyd (d : Byte) : Statement (.adcAIyd d) := of_size 3 rfl (by decide) (by decide) rfl
theorem subIyd (d : Byte) : Statement (.subIyd d) := of_size 3 rfl (by decide) (by decide) rfl
theorem sbcAIyd (d : Byte) : Statement (.sbcAIyd d) := of_size 3 rfl (by decide) (by decide) rfl
theorem andIyd (d : Byte) : Statement (.andIyd d) := of_size 3 rfl (by decide) (by decide) rfl
theorem xorIyd (d : Byte) : Statement (.xorIyd d) := of_size 3 rfl (by decide) (by decide) rfl
theorem orIyd (d : Byte) : Statement (.orIyd d) := of_size 3 rfl (by decide) (by decide) rfl
theorem cpIyd (d : Byte) : Statement (.cpIyd d) := of_size 3 rfl (by decide) (by decide) rfl
theorem popIy : Statement .popIy := of_size 2 rfl (by decide) (by decide) rfl
theorem exIndSpIy : Statement .exIndSpIy := of_size 2 rfl (by decide) (by decide) rfl
theorem pushIy : Statement .pushIy := of_size 2 rfl (by decide) (by decide) rfl
theorem jpIndIy : Statement .jpIndIy := of_size 2 rfl (by decide) (by decide) rfl
theorem ldSpIy : Statement .ldSpIy := of_size 2 rfl (by decide) (by decide) rfl
theorem rlcIyd (d : Byte) : Statement (.rlcIyd d) := of_size 4 rfl (by decide) (by decide) rfl
theorem rrcIyd (d : Byte) : Statement (.rrcIyd d) := of_size 4 rfl (by decide) (by decide) rfl
theorem rlIyd (d : Byte) : Statement (.rlIyd d) := of_size 4 rfl (by decide) (by decide) rfl
theorem rrIyd (d : Byte) : Statement (.rrIyd d) := of_size 4 rfl (by decide) (by decide) rfl
theorem slaIyd (d : Byte) : Statement (.slaIyd d) := of_size 4 rfl (by decide) (by decide) rfl
theorem sraIyd (d : Byte) : Statement (.sraIyd d) := of_size 4 rfl (by decide) (by decide) rfl
theorem sllIyd (d : Byte) : Statement (.sllIyd d) := of_size 4 rfl (by decide) (by decide) rfl
theorem srlIyd (d : Byte) : Statement (.srlIyd d) := of_size 4 rfl (by decide) (by decide) rfl
theorem bitBIyd (b : BitVec 3) (d : Byte) : Statement (.bitBIyd b d) := of_size 4 rfl (by decide) (by decide) rfl
theorem resBIyd (b : BitVec 3) (d : Byte) : Statement (.resBIyd b d) := of_size 4 rfl (by decide) (by decide) rfl
theorem setBIyd (b : BitVec 3) (d : Byte) : Statement (.setBIyd b d) := of_size 4 rfl (by decide) (by decide) rfl
theorem unknownHalfIndexDd (op : Byte) : Statement (.unknownHalfIndexDd op) :=
  of_size 2 rfl (by decide) (by decide) rfl
theorem discardedPrefixDd (op : Byte) : Statement (.discardedPrefixDd op) := of_size 2 rfl (by decide) (by decide) rfl
theorem unknownDdcb (d : Byte) (op : Byte) : Statement (.unknownDdcb d op) :=
  of_size 4 rfl (by decide) (by decide) rfl
theorem unknownHalfIndexFd (op : Byte) : Statement (.unknownHalfIndexFd op) :=
  of_size 2 rfl (by decide) (by decide) rfl
theorem discardedPrefixFd (op : Byte) : Statement (.discardedPrefixFd op) := of_size 2 rfl (by decide) (by decide) rfl
theorem unknownFdcb (d : Byte) (op : Byte) : Statement (.unknownFdcb d op) :=
  of_size 4 rfl (by decide) (by decide) rfl
theorem unknownEd (op : Byte) : Statement (.unknownEd op) := of_size 2 rfl (by decide) (by decide) rfl

end Sys2Proof.Laws.EncodedSize
end

