-- ==== Sys2Proof/Laws/Vdp.lean ====
section
/-! SUPPORT. The VDP: what its port operations change, what a scanline draws and sets, and that each keeps the
canonical forms, the status bits and the counters. -/

namespace Sys2Proof.Machine

/-! ### Port operations (R484 to R488) -/

/-- A control write changes `addr`, the latch, the code, the read buffer and the registers only. -/
theorem Vdp.writeControl_eq (v : Vdp) (b : Byte) :
    v.writeControl b =
      { v with
        addr := (v.writeControl b).addr
        latch := (v.writeControl b).latch
        code := (v.writeControl b).code
        readbuf := (v.writeControl b).readbuf
        vr := (v.writeControl b).vr } := by
  unfold Vdp.writeControl Vdp.writeControlFirst Vdp.writeControlSecond
  split
  · simp only
    split
    · rfl
    · split <;> rfl
  · rfl

/-- A data write changes VRAM, CRAM, `addr`, the latch and the read buffer only. -/
theorem Vdp.writeData_eq (v : Vdp) (b : Byte) :
    v.writeData b =
      { v with
        vram := if v.code = 3 then v.vram else Vram.write v.vram v.addr b
        cram := if v.code = 3 then v.cram.set (v.addr.extractLsb' 0 5).toNat b (BitVec.isLt _) else v.cram
        latch := false
        readbuf := b
        addr := v.addr + 1 } := by
  unfold Vdp.writeData
  by_cases h : v.code = 3#2
  · simp [h]
  · simp [h]

/-! ### What compositing reads (R504 to R508) -/

/-- Compositing reads VRAM, CRAM, the registers and the two parameters only. -/
structure Vdp.SamePicture (v w : Vdp) : Prop where
  vram : w.vram = v.vram
  cram : w.cram = v.cram
  vr : w.vr = v.vr
  screen : w.screen = v.screen

theorem Vdp.SamePicture.spriteSize {v w : Vdp} (h : v.SamePicture w) : w.spriteSize = v.spriteSize := by
  unfold Vdp.spriteSize
  rw [h.vr]

theorem Vdp.SamePicture.satBase {v w : Vdp} (h : v.SamePicture w) : w.satBase = v.satBase := by
  unfold Vdp.satBase
  rw [h.vr]

theorem Vdp.SamePicture.vramAt {v w : Vdp} (h : v.SamePicture w) (a : Nat) : w.vramAt a = v.vramAt a := by
  unfold Vdp.vramAt
  rw [h.vram]

theorem Vdp.SamePicture.drawSprite {v w : Vdp} (h : v.SamePicture w) (i row : Nat) (ls : Line × Byte) :
    w.drawSprite i row ls = v.drawSprite i row ls := by
  obtain ⟨h1, h2, h3, h4⟩ := h
  cases v
  cases w
  simp only at h1 h2 h3 h4
  subst h1 h2 h3 h4
  rfl

theorem Vdp.SamePicture.drawSpritesFrom {v w : Vdp} (h : v.SamePicture w) (y left : Nat) :
    ∀ (i count : Nat) (ls : Line × Byte),
      w.drawSpritesFrom y left i count ls = v.drawSpritesFrom y left i count ls := by
  induction left with
  | zero => intro i count ls; rfl
  | succ left ih =>
    intro i count ls
    unfold Vdp.drawSpritesFrom
    rw [h.satBase, h.spriteSize, h.vramAt]
    simp only [h.drawSprite, ih]

theorem Vdp.SamePicture.backgroundPixel {v w : Vdp} (h : v.SamePicture w) (y x : Nat) (under : Option Rgb) :
    w.backgroundPixel y x under = v.backgroundPixel y x under := by
  obtain ⟨h1, h2, h3, h4⟩ := h
  cases v
  cases w
  simp only at h1 h2 h3 h4
  subst h1 h2 h3 h4
  rfl

theorem Vdp.SamePicture.drawBackground {v w : Vdp} (h : v.SamePicture w) (y : Nat) (line : Line) :
    w.drawBackground y line = v.drawBackground y line := by
  unfold Vdp.drawBackground
  simp only [h.backgroundPixel]

/-- A scanline does not look at `hcount`. -/
theorem Vdp.scanline_hcount (v : Vdp) (h : BitVec 9) (render : Bool) :
    ({ v with hcount := h } : Vdp).scanline render = { v.scanline render with hcount := h } := by
  have ha : ({ v with hcount := h } : Vdp).advanceV = { v.advanceV with hcount := h } := by
    simp only [Vdp.advanceV]
    split
    · rfl
    · split <;> rfl
  have hr : ∀ (u : Vdp) (y : Nat),
      ({ u with hcount := h } : Vdp).renderLine y = { u.renderLine y with hcount := h } := by
    intro u y
    have hs : Vdp.SamePicture u { u with hcount := h } := ⟨rfl, rfl, rfl, rfl⟩
    simp only [Vdp.renderLine, Vdp.drawSprites, hs.drawSpritesFrom, hs.drawBackground]
  have hl : ∀ u : Vdp, ({ u with hcount := h } : Vdp).lineCounter = { u.lineCounter with hcount := h } := by
    intro u
    simp only [Vdp.lineCounter]
    split <;> rfl
  have hf : ∀ u : Vdp, ({ u with hcount := h } : Vdp).frameInterrupt = { u.frameInterrupt with hcount := h } := by
    intro u
    simp only [Vdp.frameInterrupt]
    split <;> rfl
  unfold Vdp.scanline
  simp only [ha]
  by_cases h1 : v.advanceV.vcount.toNat < 192
  · simp only [h1, if_true]
    have hd : ({ v.advanceV with hcount := h } : Vdp).displayShown = v.advanceV.displayShown := rfl
    by_cases h2 : (v.advanceV.displayShown && render) = true
    · simp only [hd, h2, if_true, hr, hl, hf]
    · simp only [hd, if_neg h2, hl, hf]
  · simp only [h1, if_false]
    exact hf { v.advanceV with linecnt := v.advanceV.vr[10] }

/-! ### The status register (R483, R503, R506) -/

/-- `b` has every bit of `a`, and no other bit outside `mask`. -/
def Gains (mask a b : Byte) : Prop := ∀ k, b.getLsbD k = true → a.getLsbD k = true ∨ mask.getLsbD k = true

theorem or_gains (a m : Byte) : (∀ k, a.getLsbD k = true → (a ||| m).getLsbD k = true) ∧ Gains m a (a ||| m) := by
  constructor
  · intro k h
    simp [h]
  · intro k h
    simpa using h

/-- The status register only gains bits, and only those of `mask`. -/
def StatusStep (mask a b : Byte) : Prop := (∀ k, a.getLsbD k = true → b.getLsbD k = true) ∧ Gains mask a b

theorem StatusStep.refl (mask a : Byte) : StatusStep mask a a := ⟨fun _ h => h, fun _ h => .inl h⟩

theorem StatusStep.trans {mask a b c : Byte} (h : StatusStep mask a b) (h' : StatusStep mask b c) :
    StatusStep mask a c :=
  ⟨fun k hk => h'.1 k (h.1 k hk), fun k hk => (h'.2 k hk).elim (fun hb => h.2 k hb) .inr⟩

theorem StatusStep.or {mask m : Byte} (a : Byte) (h : ∀ k, m.getLsbD k = true → mask.getLsbD k = true) :
    StatusStep mask a (a ||| m) :=
  ⟨(or_gains a m).1, fun k hk => ((or_gains a m).2 k hk).imp_right (h k)⟩

/-- A bit outside the mask stays. -/
theorem StatusStep.getLsbD {mask a b : Byte} (h : StatusStep mask a b) {k : Nat} (hk : mask.getLsbD k = false) :
    b.getLsbD k = a.getLsbD k := by
  cases ha : a.getLsbD k
  · cases hb : b.getLsbD k
    · rfl
    · rcases h.2 k hb with h1 | h1
      · rw [ha] at h1; cases h1
      · rw [hk] at h1; cases h1
  · exact h.1 k ha

theorem Vdp.spritePixel_status (v : Vdp) (t row : Nat) (x : Int) (p : Nat) (ls : Line × Byte) :
    StatusStep 0x60#8 ls.2 (v.spritePixel t row x p ls).2 := by
  unfold Vdp.spritePixel
  simp only
  split
  · exact .refl ..
  · split
    · exact .refl ..
    · split
      · exact .refl ..
      · split
        · refine .or _ fun k hk => ?_
          rcases k with _ | _ | _ | _ | _ | _ | _ | _ | k <;> simp_all
        · exact .refl ..

theorem Vdp.drawSprite_status (v : Vdp) (i row : Nat) (ls : Line × Byte) :
    StatusStep 0x60#8 ls.2 (v.drawSprite i row ls).2 := by
  unfold Vdp.drawSprite
  simp only
  generalize List.range 8 = ps
  induction ps generalizing ls with
  | nil => exact .refl ..
  | cons p ps ih => exact (v.spritePixel_status ..).trans (ih _)

theorem Vdp.drawSpritesFrom_status (v : Vdp) (y left : Nat) :
    ∀ (i count : Nat) (ls : Line × Byte), StatusStep 0x60#8 ls.2 (v.drawSpritesFrom y left i count ls).2 := by
  induction left with
  | zero => intro i count ls; exact .refl ..
  | succ left ih =>
    intro i count ls
    unfold Vdp.drawSpritesFrom
    simp only
    split
    · exact .refl ..
    · split
      · exact ih ..
      · split
        · refine .or _ fun k hk => ?_
          rcases k with _ | _ | _ | _ | _ | _ | _ | _ | k <;> simp_all
        · exact (v.drawSprite_status ..).trans (ih ..)

/-- `RenderLine` changes status bits 5 and 6 and the framebuffer row only (R504, R506). -/
theorem Vdp.renderLine_status (v : Vdp) (y : Nat) : StatusStep 0x60#8 v.status (v.renderLine y).status :=
  v.drawSpritesFrom_status y 64 0 0 (Line.cleared, v.status)

theorem Vdp.renderLine_eq (v : Vdp) (y : Nat) :
    v.renderLine y = { v with status := (v.renderLine y).status, fb := (v.renderLine y).fb } := rfl

/-- The row a drawn line leaves has 256 pixels (R504). -/
theorem Vdp.drawBackground_length (v : Vdp) (y : Nat) (line : Line) : (v.drawBackground y line).length = 256 := by
  simp [Vdp.drawBackground]

theorem Vdp.wf_renderLine {v : Vdp} (h : Fb.wf v.fb = true) {y : Nat} (hy : y < 192) :
    Fb.wf (v.renderLine y).fb = true :=
  Fb.wf_writeRow h hy (v.drawBackground_length ..)

/-! ### One scanline (R499) -/

/-- The line counter changes itself and the interrupt request only (R502). -/
theorem Vdp.lineCounter_eq (v : Vdp) :
    v.lineCounter =
      { v with
        linecnt := if v.linecnt = 0 then v.vr[10] else v.linecnt - 1
        irqPending := v.irqPending || (decide (v.linecnt = 0) && (v.vr[0]).getLsbD 4) } := by
  unfold Vdp.lineCounter
  by_cases h : v.linecnt = 0
  · have h' : v.linecnt - 1 = 0xFF#8 := by rw [h]; rfl
    simp only
    rw [if_pos h', if_pos h, h]
    simp
  · have h' : ¬v.linecnt - 1 = 0xFF#8 := by
      intro e
      apply h
      bv_omega
    simp only [h', if_false, h, decide_false, Bool.false_and, Bool.or_false]

/-- The frame interrupt changes status bit 7 and the interrupt request only (R503). -/
theorem Vdp.frameInterrupt_eq (v : Vdp) :
    v.frameInterrupt =
      { v with
        status := if v.vcount = 0xC1#8 then v.status ||| 0x80#8 else v.status
        irqPending := v.irqPending || decide (v.vcount = 0xC1#8) } := by
  unfold Vdp.frameInterrupt
  by_cases h : v.vcount = 0xC1#8
  · simp [h]
  · simp [h]

/-- The vertical counter's step changes `vcount` and `vjump` only (R498). -/
theorem Vdp.advanceV_eq (v : Vdp) :
    v.advanceV = { v with vcount := v.advanceV.vcount, vjump := v.advanceV.vjump } := by
  unfold Vdp.advanceV
  simp only
  split
  · rfl
  · split <;> rfl

/-- What the drawing clause of a scanline leaves. -/
def Vdp.drawn (v : Vdp) (render : Bool) : Vdp :=
  if v.displayShown && render then v.renderLine v.vcount.toNat else v

/-- A scanline in full, on the state after the counter's step: an active line draws, counts, and cannot be the frame
interrupt's; every other line reloads the line counter (R499). -/
theorem Vdp.scanline_eq (v : Vdp) (render : Bool) :
    v.scanline render =
      if v.advanceV.vcount.toNat < 192 then
        { v.advanceV.drawn render with
          linecnt := if v.linecnt = 0 then v.vr[10] else v.linecnt - 1
          irqPending := v.irqPending || (decide (v.linecnt = 0) && (v.vr[0]).getLsbD 4) }
      else
        { v.advanceV with
          linecnt := v.vr[10]
          status := if v.advanceV.vcount = 0xC1#8 then v.status ||| 0x80#8 else v.status
          irqPending := v.irqPending || decide (v.advanceV.vcount = 0xC1#8) } := by
  have ha := v.advanceV_eq
  unfold Vdp.scanline
  simp only
  by_cases h : v.advanceV.vcount.toNat < 192
  · have hd : ∃ st fb, v.advanceV.drawn render = { v.advanceV with status := st, fb := fb } := by
      unfold Vdp.drawn
      split
      · exact ⟨_, _, Vdp.renderLine_eq ..⟩
      · exact ⟨_, _, rfl⟩
    obtain ⟨st, fb, hd⟩ := hd
    have hd' :
        (if (v.advanceV.displayShown && render) = true then v.advanceV.renderLine v.advanceV.vcount.toNat
          else v.advanceV) = { v.advanceV with status := st, fb := fb } := hd
    have hc : v.advanceV.vcount ≠ 0xC1#8 := by
      intro e
      rw [e] at h
      exact absurd h (by decide)
    simp only [h, if_true, hd, hd', Vdp.lineCounter_eq, Vdp.frameInterrupt_eq, hc, if_false, decide_false,
      Bool.or_false]
    rw [ha]
  · simp only [h, if_false, Vdp.frameInterrupt_eq]
    rw [ha]

/-! ### What every scanline keeps -/

/-- The counters agree after the step of the vertical counter (R498). -/
theorem Vdp.advanceV_counters (v : Vdp)
    (h : if v.vjump then 0xD5 ≤ v.vcount.toNat else v.vcount.toNat ≤ 0xDA) :
    if v.advanceV.vjump then 0xD5 ≤ v.advanceV.vcount.toNat else v.advanceV.vcount.toNat ≤ 0xDA := by
  have key : ∀ (c : Byte) (j : Bool), (if j then 0xD5 ≤ c.toNat else c.toNat ≤ 0xDA) →
      let n := c + 1
      if n = 0xDB#8 ∧ j = false then True
      else if n = 0x00#8 then True
      else if j then 0xD5 ≤ n.toNat else n.toNat ≤ 0xDA := by
    decide
  have hk := key v.vcount v.vjump h
  unfold Vdp.advanceV
  simp only at hk ⊢
  split
  · exact (by decide : 0xD5 ≤ (0xD5#8).toNat)
  · rename_i h1
    rw [if_neg h1] at hk
    split
    · exact (by decide : (0x00#8).toNat ≤ 0xDA)
    · rename_i h2
      rw [if_neg h2] at hk
      exact hk

/-- Scanlines compose. -/
theorem Vdp.scanlines_add (render : Bool) (m n : Nat) (v : Vdp) :
    Vdp.scanlines render (m + n) v = Vdp.scanlines render n (Vdp.scanlines render m v) := by
  induction m generalizing v with
  | zero => rw [Nat.zero_add]; rfl
  | succ m ih =>
    rw [Nat.add_right_comm]
    exact ih _

theorem Vdp.scanlines_succ (render : Bool) (n : Nat) (v : Vdp) :
    Vdp.scanlines render (n + 1) v = (Vdp.scanlines render n v).scanline render := by
  rw [Vdp.scanlines_add]
  rfl

/-- Scanlines do not look at `hcount`. -/
theorem Vdp.scanlines_hcount (render : Bool) (n : Nat) (v : Vdp) (h : BitVec 9) :
    Vdp.scanlines render n ({ v with hcount := h } : Vdp) = { Vdp.scanlines render n v with hcount := h } := by
  induction n generalizing v with
  | zero => rfl
  | succ n ih =>
    show Vdp.scanlines render n (Vdp.scanline _ render) = _
    rw [Vdp.scanline_hcount]
    exact ih _

end Sys2Proof.Machine
end

