-- ==== Sys2Proof/Tests/Slice0.lean ====
section
/-! SUPPORT. The model's own tests: ill-formed terms, the decoding of a word of every constructor, single steps whose
results stand in 95_test_vectors.md, and a witness for the hypotheses of every obligation. -/

namespace Sys2Proof.Tests

open Sys2Proof Sys2Proof.Machine Sys2Proof.Rules

/-! ### Well-formedness: each check refuses an ill-formed term and takes a well-formed one (R97, R98) -/

theorem test_wf_half_index_dd :
    ¬(Instr.unknownHalfIndexDd 0x21).WellFormed ∧ (Instr.unknownHalfIndexDd 0x24).WellFormed := by decide

theorem test_wf_half_index_fd :
    ¬(Instr.unknownHalfIndexFd 0x66).WellFormed ∧ (Instr.unknownHalfIndexFd 0x65).WellFormed := by decide

theorem test_wf_discarded_dd :
    ¬(Instr.discardedPrefixDd 0xCB).WellFormed ∧ (Instr.discardedPrefixDd 0xFF).WellFormed := by decide

theorem test_wf_discarded_fd :
    ¬(Instr.discardedPrefixFd 0x09).WellFormed ∧ (Instr.discardedPrefixFd 0x00).WellFormed := by decide

theorem test_wf_unknown_ed : ¬(Instr.unknownEd 0x40).WellFormed ∧ (Instr.unknownEd 0x3F).WellFormed := by decide

theorem test_wf_unknown_ddcb :
    ¬(Instr.unknownDdcb 0x00 0x06).WellFormed ∧ (Instr.unknownDdcb 0xFF 0x05).WellFormed := by decide

theorem test_wf_unknown_fdcb :
    ¬(Instr.unknownFdcb 0x00 0xFE).WellFormed ∧ (Instr.unknownFdcb 0x80 0xFF).WellFormed := by decide

/-! ### Decoding: a word of every constructor, from the match, the fields and the operands of its row of
opcode_table.json (R109) -/

theorem test_decode_control :
    decode4 0x00 0x00 0x00 0x00 = .nop ∧ decode4 0x27 0x00 0x00 0x00 = .daa ∧ decode4 0x2F 0x00 0x00 0x00 = .cpl ∧
      decode4 0x37 0x00 0x00 0x00 = .scf ∧ decode4 0x3F 0x00 0x00 0x00 = .ccf ∧
      decode4 0x76 0x00 0x00 0x00 = .halt ∧ decode4 0xF3 0x00 0x00 0x00 = .di ∧ decode4 0xFB 0x00 0x00 0x00 = .ei ∧
      decode4 0xED 0x44 0x00 0x00 = .neg ∧ decode4 0xED 0x46 0x00 0x00 = .im0 ∧ decode4 0xED 0x56 0x00 0x00 = .im1 ∧
      decode4 0xED 0x5E 0x00 0x00 = .im2 := by
  decide

theorem test_decode_exchange_block :
    decode4 0x08 0x00 0x00 0x00 = .exAfAf ∧ decode4 0xD9 0x00 0x00 0x00 = .exx ∧
      decode4 0xE3 0x00 0x00 0x00 = .exIndSpHl ∧ decode4 0xEB 0x00 0x00 0x00 = .exDeHl ∧
      decode4 0xED 0xA0 0x00 0x00 = .ldi ∧ decode4 0xED 0xA1 0x00 0x00 = .cpi ∧ decode4 0xED 0xA8 0x00 0x00 = .ldd ∧
      decode4 0xED 0xA9 0x00 0x00 = .cpd ∧ decode4 0xED 0xB0 0x00 0x00 = .ldir ∧
      decode4 0xED 0xB1 0x00 0x00 = .cpir ∧ decode4 0xED 0xB8 0x00 0x00 = .lddr ∧
      decode4 0xED 0xB9 0x00 0x00 = .cpdr ∧ decode4 0xDD 0xE3 0x00 0x00 = .exIndSpIx ∧
      decode4 0xFD 0xE3 0x00 0x00 = .exIndSpIy := by
  decide

theorem test_decode_jump_call :
    decode4 0x10 0xA5 0x00 0x00 = .djnzE 0xA5 ∧ decode4 0x18 0x4D 0x00 0x00 = .jrE 0x4D ∧
      decode4 0x20 0xCA 0x00 0x00 = .jrNzE 0xCA ∧ decode4 0x28 0x18 0x00 0x00 = .jrZE 0x18 ∧
      decode4 0x30 0x25 0x00 0x00 = .jrNcE 0x25 ∧ decode4 0x38 0x30 0x00 0x00 = .jrCE 0x30 ∧
      decode4 0xE8 0x00 0x00 0x00 = .retCc .pe ∧ decode4 0xC9 0x00 0x00 0x00 = .ret ∧
      decode4 0xE9 0x00 0x00 0x00 = .jpIndHl ∧ decode4 0xC2 0xEC 0x6D 0x00 = .jpCcNn .nz 0x6DEC ∧
      decode4 0xC3 0x32 0x13 0x00 = .jpNn 0x1332 ∧ decode4 0xCC 0x06 0xDE 0x00 = .callCcNn .z 0xDE06 ∧
      decode4 0xCD 0x1A 0xD6 0x00 = .callNn 0xD61A ∧ decode4 0xCF 0x00 0x00 0x00 = .rstP 1 ∧
      decode4 0xED 0x45 0x00 0x00 = .retn ∧ decode4 0xED 0x4D 0x00 0x00 = .reti ∧
      decode4 0xDD 0xE9 0x00 0x00 = .jpIndIx ∧ decode4 0xFD 0xE9 0x00 0x00 = .jpIndIy := by
  decide

theorem test_decode_load16 :
    decode4 0x11 0x71 0x2E 0x00 = .ldDdNn .de 0x2E71 ∧ decode4 0x22 0x5A 0xD9 0x00 = .ldIndNnHl 0xD95A ∧
      decode4 0x2A 0x43 0x1E 0x00 = .ldHlIndNn 0x1E43 ∧ decode4 0xC1 0x00 0x00 0x00 = .popQq .bc ∧
      decode4 0xF9 0x00 0x00 0x00 = .ldSpHl ∧ decode4 0xD5 0x00 0x00 0x00 = .pushQq .de ∧
      decode4 0xED 0x43 0x19 0xCB = .ldIndNnDd 0xCB19 .bc ∧ decode4 0xED 0x4B 0x31 0x71 = .ldDdIndNn .bc 0x7131 ∧
      decode4 0xDD 0x21 0xD9 0x17 = .ldIxNn 0x17D9 ∧ decode4 0xDD 0x22 0x2F 0x44 = .ldIndNnIx 0x442F ∧
      decode4 0xDD 0x2A 0x47 0x94 = .ldIxIndNn 0x9447 ∧ decode4 0xDD 0xE1 0x00 0x00 = .popIx ∧
      decode4 0xDD 0xE5 0x00 0x00 = .pushIx ∧ decode4 0xDD 0xF9 0x00 0x00 = .ldSpIx ∧
      decode4 0xFD 0x21 0x99 0xD6 = .ldIyNn 0xD699 ∧ decode4 0xFD 0x22 0xDB 0x49 = .ldIndNnIy 0x49DB ∧
      decode4 0xFD 0x2A 0x4F 0x3C = .ldIyIndNn 0x3C4F ∧ decode4 0xFD 0xE1 0x00 0x00 = .popIy ∧
      decode4 0xFD 0xE5 0x00 0x00 = .pushIy ∧ decode4 0xFD 0xF9 0x00 0x00 = .ldSpIy := by
  decide

theorem test_decode_alu16 :
    decode4 0x29 0x00 0x00 0x00 = .addHlSs .hl ∧ decode4 0x13 0x00 0x00 0x00 = .incSs .de ∧
      decode4 0x0B 0x00 0x00 0x00 = .decSs .bc ∧ decode4 0xED 0x52 0x00 0x00 = .sbcHlSs .de ∧
      decode4 0xED 0x6A 0x00 0x00 = .adcHlSs .hl ∧ decode4 0xDD 0x09 0x00 0x00 = .addIxPp .bc ∧
      decode4 0xDD 0x23 0x00 0x00 = .incIx ∧ decode4 0xDD 0x2B 0x00 0x00 = .decIx ∧
      decode4 0xFD 0x09 0x00 0x00 = .addIyRr .bc ∧ decode4 0xFD 0x23 0x00 0x00 = .incIy ∧
      decode4 0xFD 0x2B 0x00 0x00 = .decIy := by
  decide

theorem test_decode_load8 :
    decode4 0x02 0x00 0x00 0x00 = .ldIndBcA ∧ decode4 0x0A 0x00 0x00 0x00 = .ldAIndBc ∧
      decode4 0x12 0x00 0x00 0x00 = .ldIndDeA ∧ decode4 0x1A 0x00 0x00 0x00 = .ldAIndDe ∧
      decode4 0x32 0x84 0x1E 0x00 = .ldIndNnA 0x1E84 ∧ decode4 0x3A 0x73 0x69 0x00 = .ldAIndNn 0x6973 ∧
      decode4 0x1E 0xDA 0x00 0x00 = .ldRN .e 0xDA ∧ decode4 0x36 0xA0 0x00 0x00 = .ldIndHlN 0xA0 ∧
      decode4 0x5C 0x00 0x00 0x00 = .ldRR .e .h ∧ decode4 0x5E 0x00 0x00 0x00 = .ldRIndHl .e ∧
      decode4 0x72 0x00 0x00 0x00 = .ldIndHlR .d ∧ decode4 0xED 0x47 0x00 0x00 = .ldIA ∧
      decode4 0xED 0x4F 0x00 0x00 = .ldRA ∧ decode4 0xED 0x57 0x00 0x00 = .ldAI ∧
      decode4 0xED 0x5F 0x00 0x00 = .ldAR ∧ decode4 0xDD 0x36 0x99 0x7F = .ldIxdN 0x99 0x7F ∧
      decode4 0xDD 0x7E 0x5C 0x00 = .ldRIxd .a 0x5C ∧ decode4 0xDD 0x75 0x7C 0x00 = .ldIxdR 0x7C .l ∧
      decode4 0xFD 0x36 0x29 0x99 = .ldIydN 0x29 0x99 ∧ decode4 0xFD 0x66 0xFD 0x00 = .ldRIyd .h 0xFD ∧
      decode4 0xFD 0x72 0xE5 0x00 = .ldIydR 0xE5 .d := by
  decide

theorem test_decode_alu8_1 :
    decode4 0x14 0x00 0x00 0x00 = .incR .d ∧ decode4 0x34 0x00 0x00 0x00 = .incIndHl ∧
      decode4 0x25 0x00 0x00 0x00 = .decR .h ∧ decode4 0x35 0x00 0x00 0x00 = .decIndHl ∧
      decode4 0x80 0x00 0x00 0x00 = .addAR .b ∧ decode4 0xC6 0x3C 0x00 0x00 = .addAN 0x3C ∧
      decode4 0x86 0x00 0x00 0x00 = .addAIndHl ∧ decode4 0x8C 0x00 0x00 0x00 = .adcAR .h ∧
      decode4 0xCE 0xD6 0x00 0x00 = .adcAN 0xD6 ∧ decode4 0x8E 0x00 0x00 0x00 = .adcAIndHl ∧
      decode4 0x91 0x00 0x00 0x00 = .subR .c ∧ decode4 0xD6 0xAF 0x00 0x00 = .subN 0xAF ∧
      decode4 0x96 0x00 0x00 0x00 = .subIndHl ∧ decode4 0x99 0x00 0x00 0x00 = .sbcAR .c ∧
      decode4 0xDE 0xFA 0x00 0x00 = .sbcAN 0xFA ∧ decode4 0x9E 0x00 0x00 0x00 = .sbcAIndHl ∧
      decode4 0xA3 0x00 0x00 0x00 = .andR .e ∧ decode4 0xE6 0x14 0x00 0x00 = .andN 0x14 ∧
      decode4 0xA6 0x00 0x00 0x00 = .andIndHl ∧ decode4 0xAD 0x00 0x00 0x00 = .xorR .l ∧
      decode4 0xEE 0x27 0x00 0x00 = .xorN 0x27 ∧ decode4 0xAE 0x00 0x00 0x00 = .xorIndHl := by
  decide

theorem test_decode_alu8_2 :
    decode4 0xB7 0x00 0x00 0x00 = .orR .a ∧ decode4 0xF6 0xA0 0x00 0x00 = .orN 0xA0 ∧
      decode4 0xB6 0x00 0x00 0x00 = .orIndHl ∧ decode4 0xBA 0x00 0x00 0x00 = .cpR .d ∧
      decode4 0xFE 0xB3 0x00 0x00 = .cpN 0xB3 ∧ decode4 0xBE 0x00 0x00 0x00 = .cpIndHl ∧
      decode4 0xDD 0x34 0xFE 0x00 = .incIxd 0xFE ∧ decode4 0xDD 0x35 0xE9 0x00 = .decIxd 0xE9 ∧
      decode4 0xDD 0x86 0x23 0x00 = .addAIxd 0x23 ∧ decode4 0xDD 0x8E 0x2F 0x00 = .adcAIxd 0x2F ∧
      decode4 0xDD 0x96 0x8A 0x00 = .subIxd 0x8A ∧ decode4 0xDD 0x9E 0xF2 0x00 = .sbcAIxd 0xF2 ∧
      decode4 0xDD 0xA6 0x21 0x00 = .andIxd 0x21 ∧ decode4 0xDD 0xAE 0x1F 0x00 = .xorIxd 0x1F ∧
      decode4 0xDD 0xB6 0x9E 0x00 = .orIxd 0x9E ∧ decode4 0xDD 0xBE 0xE4 0x00 = .cpIxd 0xE4 ∧
      decode4 0xFD 0x34 0x91 0x00 = .incIyd 0x91 ∧ decode4 0xFD 0x35 0xC5 0x00 = .decIyd 0xC5 ∧
      decode4 0xFD 0x86 0xB1 0x00 = .addAIyd 0xB1 ∧ decode4 0xFD 0x8E 0x0B 0x00 = .adcAIyd 0x0B ∧
      decode4 0xFD 0x96 0xEC 0x00 = .subIyd 0xEC ∧ decode4 0xFD 0x9E 0xB5 0x00 = .sbcAIyd 0xB5 := by
  decide

theorem test_decode_alu8_3 :
    decode4 0xFD 0xA6 0x56 0x00 = .andIyd 0x56 ∧ decode4 0xFD 0xAE 0x3B 0x00 = .xorIyd 0x3B ∧
      decode4 0xFD 0xB6 0xFC 0x00 = .orIyd 0xFC ∧ decode4 0xFD 0xBE 0x1E 0x00 = .cpIyd 0x1E := by
  decide

theorem test_decode_rotate_shift_1 :
    decode4 0x07 0x00 0x00 0x00 = .rlca ∧ decode4 0x0F 0x00 0x00 0x00 = .rrca ∧ decode4 0x17 0x00 0x00 0x00 = .rla ∧
      decode4 0x1F 0x00 0x00 0x00 = .rra ∧ decode4 0xCB 0x01 0x00 0x00 = .rlcR .c ∧
      decode4 0xCB 0x06 0x00 0x00 = .rlcIndHl ∧ decode4 0xCB 0x0F 0x00 0x00 = .rrcR .a ∧
      decode4 0xCB 0x0E 0x00 0x00 = .rrcIndHl ∧ decode4 0xCB 0x12 0x00 0x00 = .rlR .d ∧
      decode4 0xCB 0x16 0x00 0x00 = .rlIndHl ∧ decode4 0xCB 0x19 0x00 0x00 = .rrR .c ∧
      decode4 0xCB 0x1E 0x00 0x00 = .rrIndHl ∧ decode4 0xCB 0x25 0x00 0x00 = .slaR .l ∧
      decode4 0xCB 0x26 0x00 0x00 = .slaIndHl ∧ decode4 0xCB 0x29 0x00 0x00 = .sraR .c ∧
      decode4 0xCB 0x2E 0x00 0x00 = .sraIndHl ∧ decode4 0xCB 0x33 0x00 0x00 = .sllR .e ∧
      decode4 0xCB 0x36 0x00 0x00 = .sllIndHl ∧ decode4 0xCB 0x3B 0x00 0x00 = .srlR .e ∧
      decode4 0xCB 0x3E 0x00 0x00 = .srlIndHl ∧ decode4 0xED 0x67 0x00 0x00 = .rrd ∧
      decode4 0xED 0x6F 0x00 0x00 = .rld := by
  decide

theorem test_decode_rotate_shift_2 :
    decode4 0xDD 0xCB 0x7F 0x06 = .rlcIxd 0x7F ∧ decode4 0xDD 0xCB 0x05 0x0E = .rrcIxd 0x05 ∧
      decode4 0xDD 0xCB 0x80 0x16 = .rlIxd 0x80 ∧ decode4 0xDD 0xCB 0x7F 0x1E = .rrIxd 0x7F ∧
      decode4 0xDD 0xCB 0x7F 0x26 = .slaIxd 0x7F ∧ decode4 0xDD 0xCB 0xFF 0x2E = .sraIxd 0xFF ∧
      decode4 0xDD 0xCB 0x80 0x36 = .sllIxd 0x80 ∧ decode4 0xDD 0xCB 0x7F 0x3E = .srlIxd 0x7F ∧
      decode4 0xFD 0xCB 0xFF 0x06 = .rlcIyd 0xFF ∧ decode4 0xFD 0xCB 0x7F 0x0E = .rrcIyd 0x7F ∧
      decode4 0xFD 0xCB 0xFF 0x16 = .rlIyd 0xFF ∧ decode4 0xFD 0xCB 0x7F 0x1E = .rrIyd 0x7F ∧
      decode4 0xFD 0xCB 0x80 0x26 = .slaIyd 0x80 ∧ decode4 0xFD 0xCB 0x80 0x2E = .sraIyd 0x80 ∧
      decode4 0xFD 0xCB 0x05 0x36 = .sllIyd 0x05 ∧ decode4 0xFD 0xCB 0x80 0x3E = .srlIyd 0x80 := by
  decide

theorem test_decode_in_out :
    decode4 0xD3 0x4D 0x00 0x00 = .outPortNA 0x4D ∧ decode4 0xDB 0x76 0x00 0x00 = .inAPortN 0x76 ∧
      decode4 0xED 0x68 0x00 0x00 = .inRPortC .l ∧ decode4 0xED 0x49 0x00 0x00 = .outPortCR .c ∧
      decode4 0xED 0xA2 0x00 0x00 = .ini ∧ decode4 0xED 0xA3 0x00 0x00 = .outi ∧
      decode4 0xED 0xAA 0x00 0x00 = .ind ∧ decode4 0xED 0xAB 0x00 0x00 = .outd ∧
      decode4 0xED 0xB2 0x00 0x00 = .inir ∧ decode4 0xED 0xB3 0x00 0x00 = .otir ∧
      decode4 0xED 0xBA 0x00 0x00 = .indr ∧ decode4 0xED 0xBB 0x00 0x00 = .otdr := by
  decide

theorem test_decode_bit_ops :
    decode4 0xCB 0x4B 0x00 0x00 = .bitBR 1 .e ∧ decode4 0xCB 0x7E 0x00 0x00 = .bitBIndHl 7 ∧
      decode4 0xCB 0xA9 0x00 0x00 = .resBR 5 .c ∧ decode4 0xCB 0x9E 0x00 0x00 = .resBIndHl 3 ∧
      decode4 0xCB 0xD8 0x00 0x00 = .setBR 3 .b ∧ decode4 0xCB 0xD6 0x00 0x00 = .setBIndHl 2 ∧
      decode4 0xDD 0xCB 0xFF 0x66 = .bitBIxd 4 0xFF ∧ decode4 0xDD 0xCB 0xFF 0xAE = .resBIxd 5 0xFF ∧
      decode4 0xDD 0xCB 0x05 0xD6 = .setBIxd 2 0x05 ∧ decode4 0xFD 0xCB 0x7F 0x66 = .bitBIyd 4 0x7F ∧
      decode4 0xFD 0xCB 0x7F 0xA6 = .resBIyd 4 0x7F ∧ decode4 0xFD 0xCB 0x05 0xE6 = .setBIyd 4 0x05 := by
  decide

theorem test_decode_undefined :
    decode4 0xDD 0x6F 0x00 0x00 = .unknownHalfIndexDd 0x6F ∧ decode4 0xDD 0x3E 0x00 0x00 = .discardedPrefixDd 0x3E ∧
      decode4 0xDD 0xCB 0x7F 0x47 = .unknownDdcb 0x7F 0x47 ∧
      decode4 0xFD 0x7C 0x00 0x00 = .unknownHalfIndexFd 0x7C ∧
      decode4 0xFD 0xDD 0x00 0x00 = .discardedPrefixFd 0xDD ∧ decode4 0xFD 0xCB 0x7F 0x47 = .unknownFdcb 0x7F 0x47 ∧
      decode4 0xED 0x70 0x00 0x00 = .unknownEd 0x70 := by
  decide

/-! ### Single steps: rows of 95_test_vectors.md, each evaluated by one CPU step on the all-zero state plus the row's
start column. Flags that the spec leaves open are not compared. -/

/-- The state with an instruction's bytes at PC. -/
def code (bs : List Byte) (s : State) : State := s.placeBytes s.pc bs

/-- The state with bytes from an address on. -/
def put (a : Word) (bs : List Byte) (s : State) : State := s.placeBytes a bs

/-- One CPU step from `s` answers a next state that meets `p`. -/
def ends (s : State) (p : State → Bool) : Bool :=
  match cpuStep s with
  | .next t => p t
  | .fault _ => false
  | .refused _ => false

/-- V40.3, `LD (IX+d),n` (R139). -/
theorem test_v40_3 :
    ends (code [0xDD, 0x36, 0xFF, 0x77] { State.reset with ix := 0x0000 })
      (fun t => decide (t.pc = 0x0004) && decide (t.tStates = 19) && decide (t.rd 0xFFFF = 0x77)) = true := by
  decide

/-- V40.4, `LD r,(IY+d)` (R134). -/
theorem test_v40_4 :
    ends (put 0xC000 [0x99] (code [0xFD, 0x6E, 0x80] { State.reset with iy := 0xC080 }))
      (fun t => decide (t.main.l = 0x99) && decide (t.pc = 0x0003) && decide (t.tStates = 19)) = true := by
  decide

/-- V40.5, `LD A,(nn)` (R143). -/
theorem test_v40_5 :
    ends (put 0xFFFF [0x42] (code [0x3A, 0xFF, 0xFF] State.reset))
      (fun t => decide (t.main.a = 0x42) && decide (t.pc = 0x0003) && decide (t.tStates = 13)) = true := by
  decide

/-- V40.7, `LD A,I` (R147). -/
theorem test_v40_7 :
    ends
      (code [0xED, 0x57]
        { State.reset with
          main := { Bank.zero with f := Flags.ofByte 0x01 }
          i := 0x80
          iff2 := true })
      (fun t => decide (t.main.a = 0x80) && decide (t.main.f.s = true) && decide (t.main.f.z = false) &&
        decide (t.main.f.h = false) && decide (t.main.f.p = true) && decide (t.main.f.n = false) &&
        decide (t.main.f.c = true) && decide (t.pc = 0x0002) && decide (t.tStates = 9)) = true := by
  decide

/-- V40.9, `LD (HL),n` (R138). -/
theorem test_v40_9 :
    ends (code [0x36, 0x99] State.reset)
      (fun t => decide (t.pc = 0x0002) && decide (t.tStates = 10) && decide (t.rd 0x0000 = 0x99)) = true := by
  decide

/-- V40.13, `LD (nn),A` (R146). -/
theorem test_v40_13 :
    ends (code [0x32, 0x00, 0xC0] { State.reset with main := { Bank.zero with a := 0x9C } })
      (fun t => decide (t.pc = 0x0003) && decide (t.tStates = 13) && decide (t.rd 0xC000 = 0x9C)) = true := by
  decide

/-- V40.14, `LD I,A` (R149). -/
theorem test_v40_14 :
    ends (code [0xED, 0x47] { State.reset with main := { Bank.zero with a := 0x3F, f := Flags.ofByte 0xD7 } })
      (fun t => decide (t.i = 0x3F) && decide (t.pc = 0x0002) && decide (t.tStates = 9)) = true := by
  decide

/-- V41.2, `LD HL,(nn)` (R163). -/
theorem test_v41_2 :
    ends (put 0x0000 [0x12] (put 0xFFFF [0x34] (code [0x2A, 0xFF, 0xFF] { State.reset with pc := 0x0100 })))
      (fun t => decide (t.main.h = 0x12) && decide (t.main.l = 0x34) && decide (t.pc = 0x0103) &&
        decide (t.tStates = 16)) = true := by
  decide

/-- V41.3, `LD (nn),dd` (R168). -/
theorem test_v41_3 :
    ends (code [0xED, 0x73, 0x00, 0xC0] { State.reset with sp := 0xBEEF })
      (fun t => decide (t.pc = 0x0004) && decide (t.tStates = 20) && decide (t.rd 0xC000 = 0xEF) &&
        decide (t.rd 0xC001 = 0xBE)) = true := by
  decide

/-- V41.4, `PUSH qq` (R174). -/
theorem test_v41_4 :
    ends (code [0xF5] { State.reset with main := { Bank.zero with a := 0x12, f := Flags.ofByte 0xFF }, sp := 0xE000 })
      (fun t => decide (t.sp = 0xDFFE) && decide (t.pc = 0x0001) && decide (t.tStates = 11) &&
        decide (t.rd 0xDFFE = 0xFF) && decide (t.rd 0xDFFF = 0x12)) = true := by
  decide

/-- V41.5, `POP qq` (R177). -/
theorem test_v41_5 :
    ends (put 0xE000 [0xFF, 0x34] (code [0xF1] { State.reset with sp := 0xE000 }))
      (fun t => decide (t.main.a = 0x34) && decide (t.main.f.s = true) && decide (t.main.f.z = true) &&
        decide (t.main.f.h = true) && decide (t.main.f.p = true) && decide (t.main.f.n = true) &&
        decide (t.main.f.c = true) && decide (t.sp = 0xE002) && decide (t.pc = 0x0001) &&
        decide (t.tStates = 10)) = true := by
  decide

/-- V41.6, `PUSH qq` (R174). -/
theorem test_v41_6 :
    ends
      (code [0xC5]
        { State.reset with
          main := { Bank.zero with b := 0x12, c := 0x34 }
          sp := 0x0001
          pc := 0x0100 })
      (fun t => decide (t.sp = 0xFFFF) && decide (t.pc = 0x0101) && decide (t.tStates = 11) &&
        decide (t.rd 0x0000 = 0x12) && decide (t.rd 0xFFFF = 0x34)) = true := by
  decide

/-- V41.8, `POP IY` (R179). -/
theorem test_v41_8 :
    ends (put 0xE000 [0x78, 0x56] (code [0xFD, 0xE1] { State.reset with sp := 0xE000 }))
      (fun t => decide (t.iy = 0x5678) && decide (t.sp = 0xE002) && decide (t.pc = 0x0002) &&
        decide (t.tStates = 14)) = true := by
  decide

/-- V42.1, `EX DE,HL` (R190). -/
theorem test_v42_1 :
    ends (code [0xEB] { State.reset with main := { Bank.zero with d := 0x11, e := 0x11, h := 0x22, l := 0x22 } })
      (fun t => decide (t.main.d = 0x22) && decide (t.main.e = 0x22) && decide (t.main.h = 0x11) &&
        decide (t.main.l = 0x11) && decide (t.pc = 0x0001) && decide (t.tStates = 4)) = true := by
  decide

/-- V42.2, `EX AF,AF'` (R191). -/
theorem test_v42_2 :
    ends
      (code [0x08]
        { State.reset with
          main := { Bank.zero with a := 0x12, f := Flags.ofByte 0x14 }
          shadow := { Bank.zero with a := 0xAB, f := Flags.ofByte 0xC5 } })
      (fun t => decide (t.main.a = 0xAB) && decide (t.main.f.s = true) && decide (t.main.f.z = true) &&
        decide (t.main.f.h = false) && decide (t.main.f.p = true) && decide (t.main.f.n = false) &&
        decide (t.main.f.c = true) && decide (t.shadow.a = 0x12) && decide (t.shadow.f = Flags.ofByte 0x14) &&
        decide (t.pc = 0x0001) && decide (t.tStates = 4)) = true := by
  decide

/-- V42.3, `EXX` (R192). -/
theorem test_v42_3 :
    ends
      (code [0xD9]
        { State.reset with
          main := { Bank.zero with c := 0x01, e := 0x02, l := 0x03 }
          shadow := { Bank.zero with c := 0x10, e := 0x20, l := 0x30 } })
      (fun t => decide (t.main.c = 0x10) && decide (t.main.e = 0x20) && decide (t.main.l = 0x30) &&
        decide (t.shadow.c = 0x01) && decide (t.shadow.e = 0x02) && decide (t.shadow.l = 0x03) &&
        decide (t.pc = 0x0001) && decide (t.tStates = 4)) = true := by
  decide

/-- V42.4, `EX (SP),HL` (R193). -/
theorem test_v42_4 :
    ends
      (put 0xE000 [0x78, 0x56] (code [0xE3]
        { State.reset with
          main := { Bank.zero with h := 0x12, l := 0x34 }
          sp := 0xE000 }))
      (fun t => decide (t.main.h = 0x56) && decide (t.main.l = 0x78) && decide (t.pc = 0x0001) &&
        decide (t.tStates = 19) && decide (t.rd 0xE000 = 0x34) && decide (t.rd 0xE001 = 0x12)) = true := by
  decide

/-- V42.6, `LDIR` (R198). -/
theorem test_v42_6 :
    ends
      (put 0xC000 [0x55, 0x66] (code [0xED, 0xB0]
        { State.reset with
          main := { Bank.zero with h := 0xC0, d := 0xD0, c := 0x02 } }))
      (fun t => decide (t.main.f.s = false) && decide (t.main.f.z = false) && decide (t.main.f.h = false) &&
        decide (t.main.f.p = true) && decide (t.main.f.n = false) && decide (t.main.f.c = false) &&
        decide (t.main.c = 0x01) && decide (t.main.e = 0x01) && decide (t.main.l = 0x01) &&
        decide (t.tStates = 21) && decide (t.rd 0xD000 = 0x55)) = true := by
  decide

/-- V42.8, `LDDR` (R200). -/
theorem test_v42_8 :
    ends (put 0xC000 [0x55] (code [0xED, 0xB8] { State.reset with main := { Bank.zero with h := 0xC0, d := 0xD0 } }))
      (fun t => decide (t.main.f.s = false) && decide (t.main.f.z = false) && decide (t.main.f.h = false) &&
        decide (t.main.f.p = true) && decide (t.main.f.n = false) && decide (t.main.f.c = false) &&
        decide (t.main.b = 0xFF) && decide (t.main.c = 0xFF) && decide (t.main.d = 0xCF) &&
        decide (t.main.e = 0xFF) && decide (t.main.h = 0xBF) && decide (t.main.l = 0xFF) &&
        decide (t.tStates = 21) && decide (t.rd 0xD000 = 0x55)) = true := by
  decide

/-- V42.9, `CPI` (R201). -/
theorem test_v42_9 :
    ends
      (put 0xC000 [0x55] (code [0xED, 0xA1]
        { State.reset with
          main := { Bank.zero with a := 0x55, h := 0xC0, c := 0x05, f := Flags.ofByte 0x01 } }))
      (fun t => decide (t.main.f.s = false) && decide (t.main.f.z = true) && decide (t.main.f.h = false) &&
        decide (t.main.f.p = true) && decide (t.main.f.n = true) && decide (t.main.f.c = true) &&
        decide (t.main.c = 0x04) && decide (t.main.l = 0x01) && decide (t.pc = 0x0002) &&
        decide (t.tStates = 16)) = true := by
  decide

/-- V42.14, `CPD` (R203). -/
theorem test_v42_14 :
    ends (code [0xED, 0xA9] { State.reset with main := { Bank.zero with a := 0x10, c := 0x01 } })
      (fun t => decide (t.main.f.s = false) && decide (t.main.f.z = false) && decide (t.main.f.h = true) &&
        decide (t.main.f.p = false) && decide (t.main.f.n = true) && decide (t.main.f.c = false) &&
        decide (t.main.c = 0x00) && decide (t.main.h = 0xFF) && decide (t.main.l = 0xFF) &&
        decide (t.pc = 0x0002) && decide (t.tStates = 16)) = true := by
  decide

/-- V43.1, `ADD A,r` (R210). -/
theorem test_v43_1 :
    ends (code [0x80] { State.reset with main := { Bank.zero with a := 0x7F, b := 0x01 } })
      (fun t => decide (t.main.a = 0x80) && decide (t.main.f.s = true) && decide (t.main.f.z = false) &&
        decide (t.main.f.h = true) && decide (t.main.f.p = true) && decide (t.main.f.n = false) &&
        decide (t.main.f.c = false) && decide (t.pc = 0x0001) && decide (t.tStates = 4)) = true := by
  decide

/-- V43.5, `ADC A,(HL)` (R217). -/
theorem test_v43_5 :
    ends
      (put 0xC000 [0xFF] (code [0x8E]
        { State.reset with
          main := { Bank.zero with a := 0xFF, h := 0xC0, f := Flags.ofByte 0x01 } }))
      (fun t => decide (t.main.f.s = true) && decide (t.main.f.z = false) && decide (t.main.f.h = true) &&
        decide (t.main.f.p = false) && decide (t.main.f.n = false) && decide (t.main.f.c = true) &&
        decide (t.pc = 0x0001) && decide (t.tStates = 7)) = true := by
  decide

/-- V43.7, `SUB r` (R220). -/
theorem test_v43_7 :
    ends (code [0x90] { State.reset with main := { Bank.zero with a := 0x80, b := 0x01 } })
      (fun t => decide (t.main.a = 0x7F) && decide (t.main.f.s = false) && decide (t.main.f.z = false) &&
        decide (t.main.f.h = true) && decide (t.main.f.p = true) && decide (t.main.f.n = true) &&
        decide (t.main.f.c = false) && decide (t.pc = 0x0001) && decide (t.tStates = 4)) = true := by
  decide

/-- V43.10, `SBC A,r` (R225). -/
theorem test_v43_10 :
    ends (code [0x98] { State.reset with main := { Bank.zero with a := 0x7F, b := 0xFF, f := Flags.ofByte 0x01 } })
      (fun t => decide (t.main.f.s = false) && decide (t.main.f.z = false) && decide (t.main.f.h = true) &&
        decide (t.main.f.p = false) && decide (t.main.f.n = true) && decide (t.main.f.c = true) &&
        decide (t.pc = 0x0001) && decide (t.tStates = 4)) = true := by
  decide

/-- V43.11, `AND n` (R231). -/
theorem test_v43_11 :
    ends (code [0xE6, 0x0F] { State.reset with main := { Bank.zero with a := 0xF0, f := Flags.ofByte 0x01 } })
      (fun t => decide (t.main.a = 0x00) && decide (t.main.f.s = false) && decide (t.main.f.z = true) &&
        decide (t.main.f.h = true) && decide (t.main.f.p = true) && decide (t.main.f.n = false) &&
        decide (t.main.f.c = false) && decide (t.pc = 0x0002) && decide (t.tStates = 7)) = true := by
  decide

/-- V43.14, `XOR n` (R236). -/
theorem test_v43_14 :
    ends (code [0xEE, 0xFF] { State.reset with main := { Bank.zero with a := 0x0F, f := Flags.ofByte 0x01 } })
      (fun t => decide (t.main.a = 0xF0) && decide (t.main.f.s = true) && decide (t.main.f.z = false) &&
        decide (t.main.f.h = false) && decide (t.main.f.p = true) && decide (t.main.f.n = false) &&
        decide (t.main.f.c = false) && decide (t.pc = 0x0002) && decide (t.tStates = 7)) = true := by
  decide

/-- V43.16, `OR n` (R241). -/
theorem test_v43_16 :
    ends (code [0xF6, 0x80] { State.reset with main := { Bank.zero with a := 0x01 } })
      (fun t => decide (t.main.a = 0x81) && decide (t.main.f.s = true) && decide (t.main.f.z = false) &&
        decide (t.main.f.h = false) && decide (t.main.f.p = true) && decide (t.main.f.n = false) &&
        decide (t.main.f.c = false) && decide (t.pc = 0x0002) && decide (t.tStates = 7)) = true := by
  decide

/-- V43.19, `CP n` (R246). -/
theorem test_v43_19 :
    ends (code [0xFE, 0x80] { State.reset with main := { Bank.zero with a := 0x7F } })
      (fun t => decide (t.main.f.s = true) && decide (t.main.f.z = false) && decide (t.main.f.h = false) &&
        decide (t.main.f.p = true) && decide (t.main.f.n = true) && decide (t.main.f.c = true) &&
        decide (t.pc = 0x0002) && decide (t.tStates = 7)) = true := by
  decide

/-- V43.20, `INC r` (R258). -/
theorem test_v43_20 :
    ends (code [0x3C] { State.reset with main := { Bank.zero with a := 0x7F, f := Flags.ofByte 0x01 } })
      (fun t => decide (t.main.a = 0x80) && decide (t.main.f.s = true) && decide (t.main.f.z = false) &&
        decide (t.main.f.h = true) && decide (t.main.f.p = true) && decide (t.main.f.n = false) &&
        decide (t.main.f.c = true) && decide (t.pc = 0x0001) && decide (t.tStates = 4)) = true := by
  decide

/-- V43.22, `DEC r` (R262). -/
theorem test_v43_22 :
    ends (code [0x3D] { State.reset with main := { Bank.zero with a := 0x80, f := Flags.ofByte 0x01 } })
      (fun t => decide (t.main.a = 0x7F) && decide (t.main.f.s = false) && decide (t.main.f.z = false) &&
        decide (t.main.f.h = true) && decide (t.main.f.p = true) && decide (t.main.f.n = true) &&
        decide (t.main.f.c = true) && decide (t.pc = 0x0001) && decide (t.tStates = 4)) = true := by
  decide

/-- V43.26, `DEC (IX+d)` (R264). -/
theorem test_v43_26 :
    ends
      (put 0xC000 [0x10] (code [0xDD, 0x35, 0xFE]
        { State.reset with
          main := { Bank.zero with f := Flags.ofByte 0x01 }
          ix := 0xC002 }))
      (fun t => decide (t.main.f.s = false) && decide (t.main.f.z = false) && decide (t.main.f.h = true) &&
        decide (t.main.f.p = false) && decide (t.main.f.n = true) && decide (t.main.f.c = true) &&
        decide (t.pc = 0x0003) && decide (t.tStates = 23) && decide (t.rd 0xC000 = 0x0F)) = true := by
  decide

/-- V43.27, `ADD A,(IY+d)` (R214). -/
theorem test_v43_27 :
    ends
      (put 0xC07F [0x02] (code [0xFD, 0x86, 0x7F]
        { State.reset with
          main := { Bank.zero with a := 0x01 }
          iy := 0xC000 }))
      (fun t => decide (t.main.a = 0x03) && decide (t.pc = 0x0003) && decide (t.tStates = 19)) = true := by
  decide

/-- V44.3, `DAA` (R280). -/
theorem test_v44_3 :
    ends (code [0x27] { State.reset with main := { Bank.zero with a := 0x0F, f := Flags.ofByte 0x12 } })
      (fun t => decide (t.main.a = 0x09) && decide (t.main.f.s = false) && decide (t.main.f.z = false) &&
        decide (t.main.f.h = false) && decide (t.main.f.p = true) && decide (t.main.f.n = true) &&
        decide (t.main.f.c = false) && decide (t.pc = 0x0001) && decide (t.tStates = 4)) = true := by
  decide

/-- V44.5, `DAA` (R280). -/
theorem test_v44_5 :
    ends (code [0x27] { State.reset with main := { Bank.zero with a := 0xFF, f := Flags.ofByte 0x93 } })
      (fun t => decide (t.main.a = 0x99) && decide (t.main.f.s = true) && decide (t.main.f.z = false) &&
        decide (t.main.f.h = false) && decide (t.main.f.p = true) && decide (t.main.f.n = true) &&
        decide (t.main.f.c = true) && decide (t.pc = 0x0001) && decide (t.tStates = 4)) = true := by
  decide

/-- V44.6, `CPL` (R281). -/
theorem test_v44_6 :
    ends (code [0x2F] { State.reset with main := { Bank.zero with a := 0x5A, f := Flags.ofByte 0xC5 } })
      (fun t => decide (t.main.a = 0xA5) && decide (t.main.f.s = true) && decide (t.main.f.z = true) &&
        decide (t.main.f.h = true) && decide (t.main.f.p = true) && decide (t.main.f.n = true) &&
        decide (t.main.f.c = true) && decide (t.pc = 0x0001) && decide (t.tStates = 4)) = true := by
  decide

/-- V44.7, `NEG` (R282). -/
theorem test_v44_7 :
    ends (code [0xED, 0x44] { State.reset with main := { Bank.zero with a := 0x80 } })
      (fun t => decide (t.main.f.s = true) && decide (t.main.f.z = false) && decide (t.main.f.h = false) &&
        decide (t.main.f.p = true) && decide (t.main.f.n = true) && decide (t.main.f.c = true) &&
        decide (t.pc = 0x0002) && decide (t.tStates = 8)) = true := by
  decide

/-- V44.10, `CCF` (R283). -/
theorem test_v44_10 :
    ends (code [0x3F] { State.reset with main := { Bank.zero with f := Flags.ofByte 0x01 } })
      (fun t => decide (t.main.f.s = false) && decide (t.main.f.z = false) && decide (t.main.f.h = true) &&
        decide (t.main.f.p = false) && decide (t.main.f.n = false) && decide (t.main.f.c = false) &&
        decide (t.pc = 0x0001) && decide (t.tStates = 4)) = true := by
  decide

/-- V44.12, `SCF` (R284). -/
theorem test_v44_12 :
    ends (code [0x37] { State.reset with main := { Bank.zero with f := Flags.ofByte 0xD6 } })
      (fun t => decide (t.main.f.s = true) && decide (t.main.f.z = true) && decide (t.main.f.h = false) &&
        decide (t.main.f.p = true) && decide (t.main.f.n = false) && decide (t.main.f.c = true) &&
        decide (t.pc = 0x0001) && decide (t.tStates = 4)) = true := by
  decide

/-- V44.15, `DI` (R287). -/
theorem test_v44_15 :
    ends (code [0xF3] { State.reset with iff1 := true, iff2 := true })
      (fun t => decide (t.pc = 0x0001) && decide (t.iff1 = false) && decide (t.iff2 = false) &&
        decide (t.tStates = 4)) = true := by
  decide

/-- V44.17, `EI` (R289). -/
theorem test_v44_17 :
    ends (code [0xFB, 0xF3] State.reset)
      (fun t => decide (t.pc = 0x0002) && decide (t.iff1 = true) && decide (t.iff2 = true) &&
        decide (t.tStates = 8)) = true := by
  decide

/-- V44.21, `EI` (R289). -/
theorem test_v44_21 :
    ends (code [0xFB, 0xED, 0x00] State.reset)
      (fun t => decide (t.pc = 0x0003) && decide (t.tStates = 4) &&
        decide (t.fault = some (.unknownOpcode (.ed 0x00)))) = true := by
  decide

/-- V44.24, `IM 2` (R293). -/
theorem test_v44_24 :
    ends (code [0xED, 0x5E] State.reset)
      (fun t => decide (t.pc = 0x0002) && decide (t.im = .im2) && decide (t.tStates = 8)) = true := by
  decide

/-- V45.1, `ADD HL,ss` (R300). -/
theorem test_v45_1 :
    ends
      (code [0x09]
        { State.reset with
          main := { Bank.zero with h := 0x0F, l := 0xFF, c := 0x01, f := Flags.ofByte 0xC5 } })
      (fun t => decide (t.main.f.s = true) && decide (t.main.f.z = true) && decide (t.main.f.h = true) &&
        decide (t.main.f.p = true) && decide (t.main.f.n = false) && decide (t.main.f.c = false) &&
        decide (t.main.h = 0x10) && decide (t.main.l = 0x00) && decide (t.pc = 0x0001) &&
        decide (t.tStates = 11)) = true := by
  decide

/-- V45.4, `ADC HL,ss` (R301). -/
theorem test_v45_4 :
    ends
      (code [0xED, 0x4A]
        { State.reset with
          main := { Bank.zero with h := 0x7F, l := 0xFF, f := Flags.ofByte 0x01 } })
      (fun t => decide (t.main.f.s = true) && decide (t.main.f.z = false) && decide (t.main.f.h = true) &&
        decide (t.main.f.p = true) && decide (t.main.f.n = false) && decide (t.main.f.c = false) &&
        decide (t.main.h = 0x80) && decide (t.main.l = 0x00) && decide (t.pc = 0x0002) &&
        decide (t.tStates = 15)) = true := by
  decide

/-- V45.8, `SBC HL,ss` (R302). -/
theorem test_v45_8 :
    ends (code [0xED, 0x52] { State.reset with main := { Bank.zero with h := 0x80, e := 0x01 } })
      (fun t => decide (t.main.f.s = false) && decide (t.main.f.z = false) && decide (t.main.f.h = true) &&
        decide (t.main.f.p = true) && decide (t.main.f.n = true) && decide (t.main.f.c = false) &&
        decide (t.main.h = 0x7F) && decide (t.main.l = 0xFF) && decide (t.pc = 0x0002) &&
        decide (t.tStates = 15)) = true := by
  decide

/-- V45.10, `INC ss` (R305). -/
theorem test_v45_10 :
    ends (code [0x03] { State.reset with main := { Bank.zero with b := 0xFF, c := 0xFF, f := Flags.ofByte 0xD7 } })
      (fun t => decide (t.main.b = 0x00) && decide (t.main.c = 0x00) && decide (t.pc = 0x0001) &&
        decide (t.tStates = 6)) = true := by
  decide

/-- V45.13, `ADD IY,rr` (R304). -/
theorem test_v45_13 :
    ends (code [0xFD, 0x29] { State.reset with main := { Bank.zero with f := Flags.ofByte 0x01 }, iy := 0x0800 })
      (fun t => decide (t.main.f.s = false) && decide (t.main.f.z = false) && decide (t.main.f.h = true) &&
        decide (t.main.f.p = false) && decide (t.main.f.n = false) && decide (t.main.f.c = false) &&
        decide (t.iy = 0x1000) && decide (t.pc = 0x0002) && decide (t.tStates = 15)) = true := by
  decide

/-- V45.17, `ADD IX,pp` (R303). -/
theorem test_v45_17 :
    ends (code [0xDD, 0x29] { State.reset with main := { Bank.zero with h := 0x11, l := 0x11 }, ix := 0x4000 })
      (fun t => decide (t.ix = 0x8000) && decide (t.pc = 0x0002) && decide (t.tStates = 15)) = true := by
  decide

/-- V46.1, `RLCA` (R320). -/
theorem test_v46_1 :
    ends (code [0x07] { State.reset with main := { Bank.zero with a := 0x81, f := Flags.ofByte 0xD6 } })
      (fun t => decide (t.main.a = 0x03) && decide (t.main.f.s = true) && decide (t.main.f.z = true) &&
        decide (t.main.f.h = false) && decide (t.main.f.p = true) && decide (t.main.f.n = false) &&
        decide (t.main.f.c = true) && decide (t.pc = 0x0001) && decide (t.tStates = 4)) = true := by
  decide

/-- V46.3, `RLA` (R321). -/
theorem test_v46_3 :
    ends (code [0x17] { State.reset with main := { Bank.zero with a := 0x80 } })
      (fun t => decide (t.main.a = 0x00) && decide (t.main.f.s = false) && decide (t.main.f.z = false) &&
        decide (t.main.f.h = false) && decide (t.main.f.p = false) && decide (t.main.f.n = false) &&
        decide (t.main.f.c = true) && decide (t.pc = 0x0001) && decide (t.tStates = 4)) = true := by
  decide

/-- V46.7, `RL r` (R332). -/
theorem test_v46_7 :
    ends (code [0xCB, 0x12] { State.reset with main := { Bank.zero with d := 0x80 } })
      (fun t => decide (t.main.f.s = false) && decide (t.main.f.z = true) && decide (t.main.f.h = false) &&
        decide (t.main.f.p = true) && decide (t.main.f.n = false) && decide (t.main.f.c = true) &&
        decide (t.main.d = 0x00) && decide (t.pc = 0x0002) && decide (t.tStates = 8)) = true := by
  decide

/-- V46.10, `SRA r` (R344). -/
theorem test_v46_10 :
    ends (code [0xCB, 0x2D] { State.reset with main := { Bank.zero with l := 0x81 } })
      (fun t => decide (t.main.f.s = true) && decide (t.main.f.z = false) && decide (t.main.f.h = false) &&
        decide (t.main.f.p = true) && decide (t.main.f.n = false) && decide (t.main.f.c = true) &&
        decide (t.main.l = 0xC0) && decide (t.pc = 0x0002) && decide (t.tStates = 8)) = true := by
  decide

/-- V46.11, `SLL r` (R348). -/
theorem test_v46_11 :
    ends (code [0xCB, 0x37] { State.reset with main := { Bank.zero with a := 0x80 } })
      (fun t => decide (t.main.a = 0x01) && decide (t.main.f.s = false) && decide (t.main.f.z = false) &&
        decide (t.main.f.h = false) && decide (t.main.f.p = false) && decide (t.main.f.n = false) &&
        decide (t.main.f.c = true) && decide (t.pc = 0x0002) && decide (t.tStates = 8)) = true := by
  decide

/-- V46.14, `RR (IX+d)` (R338). -/
theorem test_v46_14 :
    ends
      (put 0xC002 [0x02] (code [0xDD, 0xCB, 0x02, 0x1E]
        { State.reset with
          main := { Bank.zero with f := Flags.ofByte 0x01 }
          ix := 0xC000 }))
      (fun t => decide (t.main.f.s = true) && decide (t.main.f.z = false) && decide (t.main.f.h = false) &&
        decide (t.main.f.p = true) && decide (t.main.f.n = false) && decide (t.main.f.c = false) &&
        decide (t.pc = 0x0004) && decide (t.tStates = 23) && decide (t.rd 0xC002 = 0x81)) = true := by
  decide

/-- V46.15, `SRL (IY+d)` (R355). -/
theorem test_v46_15 :
    ends (put 0xC000 [0xFF] (code [0xFD, 0xCB, 0xFF, 0x3E] { State.reset with iy := 0xC001 }))
      (fun t => decide (t.main.f.s = false) && decide (t.main.f.z = false) && decide (t.main.f.h = false) &&
        decide (t.main.f.p = false) && decide (t.main.f.n = false) && decide (t.main.f.c = true) &&
        decide (t.pc = 0x0004) && decide (t.tStates = 23) && decide (t.rd 0xC000 = 0x7F)) = true := by
  decide

/-- V46.16, `RLD` (R356). -/
theorem test_v46_16 :
    ends
      (put 0xC000 [0x34] (code [0xED, 0x6F]
        { State.reset with
          main := { Bank.zero with a := 0x12, h := 0xC0, f := Flags.ofByte 0x01 } }))
      (fun t => decide (t.main.a = 0x13) && decide (t.pc = 0x0002) && decide (t.tStates = 18) &&
        decide (t.rd 0xC000 = 0x42)) = true := by
  decide

/-- V46.17, `RRD` (R357). -/
theorem test_v46_17 :
    ends (put 0xC000 [0x34] (code [0xED, 0x67] { State.reset with main := { Bank.zero with a := 0x12, h := 0xC0 } }))
      (fun t => decide (t.main.a = 0x14) && decide (t.main.f.s = false) && decide (t.main.f.z = false) &&
        decide (t.main.f.h = false) && decide (t.main.f.p = true) && decide (t.main.f.n = false) &&
        decide (t.main.f.c = false) && decide (t.pc = 0x0002) && decide (t.tStates = 18) &&
        decide (t.rd 0xC000 = 0x23)) = true := by
  decide

/-- V47.3, `BIT b,(HL)` (R371). -/
theorem test_v47_3 :
    ends
      (put 0xC000 [0x08] (code [0xCB, 0x5E]
        { State.reset with
          main := { Bank.zero with h := 0xC0, f := Flags.ofByte 0x02 } }))
      (fun t => decide (t.main.f.z = false) && decide (t.main.f.h = true) && decide (t.main.f.n = false) &&
        decide (t.main.f.c = false) && decide (t.pc = 0x0002) && decide (t.tStates = 12)) = true := by
  decide

/-- V47.5, `SET b,r` (R374). -/
theorem test_v47_5 :
    ends (code [0xCB, 0xC0] { State.reset with main := { Bank.zero with f := Flags.ofByte 0xFF } })
      (fun t => decide (t.main.b = 0x01) && decide (t.pc = 0x0002) && decide (t.tStates = 8)) = true := by
  decide

/-- V47.10, `RES b,(IX+d)` (R380). -/
theorem test_v47_10 :
    ends (put 0xC07F [0xFF] (code [0xDD, 0xCB, 0x7F, 0xA6] { State.reset with ix := 0xC000 }))
      (fun t => decide (t.pc = 0x0004) && decide (t.tStates = 23) && decide (t.rd 0xC07F = 0xEF)) = true := by
  decide

/-- V48.4, `JP cc,nn` (R391). -/
theorem test_v48_4 :
    ends (code [0xE2, 0x00, 0x80] { State.reset with main := { Bank.zero with f := Flags.ofByte 0x04 } })
      (fun t => decide (t.pc = 0x0003) && decide (t.tStates = 10)) = true := by
  decide

/-- V48.8, `JR e` (R392). -/
theorem test_v48_8 :
    ends (code [0x18, 0x80] { State.reset with pc := 0x0010 })
      (fun t => decide (t.pc = 0xFF92) && decide (t.tStates = 12)) = true := by
  decide

/-- V48.11, `JR C,e` (R393). -/
theorem test_v48_11 :
    ends (code [0x38, 0x05] { State.reset with main := { Bank.zero with f := Flags.ofByte 0x01 } })
      (fun t => decide (t.pc = 0x0007) && decide (t.tStates = 12)) = true := by
  decide

/-- V48.15, `DJNZ e` (R400). -/
theorem test_v48_15 :
    ends (code [0x10, 0xFE] { State.reset with main := { Bank.zero with b := 0x02, f := Flags.ofByte 0xFF } })
      (fun t => decide (t.main.b = 0x01) && decide (t.tStates = 13)) = true := by
  decide

/-- V48.17, `DJNZ e` (R400). -/
theorem test_v48_17 :
    ends (code [0x10, 0x00] State.reset)
      (fun t => decide (t.main.b = 0xFF) && decide (t.pc = 0x0002) && decide (t.tStates = 13)) = true := by
  decide

/-- V48.23, `CALL cc,nn` (R409). -/
theorem test_v48_23 :
    ends (code [0xC4, 0x00, 0x20] { State.reset with sp := 0xE000 })
      (fun t => decide (t.sp = 0xDFFE) && decide (t.pc = 0x2000) && decide (t.tStates = 17) &&
        decide (t.rd 0xDFFE = 0x03)) = true := by
  decide

/-- V48.26, `RET cc` (R411). -/
theorem test_v48_26 :
    ends (put 0xE000 [0x34, 0x12] (code [0xC8] { State.reset with sp := 0xE000 }))
      (fun t => decide (t.pc = 0x0001) && decide (t.tStates = 5)) = true := by
  decide

/-- V48.29, `RST p` (R414). -/
theorem test_v48_29 :
    ends (code [0xC7] { State.reset with sp := 0x0000, pc := 0x8000 })
      (fun t => decide (t.sp = 0xFFFE) && decide (t.pc = 0x0000) && decide (t.tStates = 11) &&
        decide (t.rd 0xFFFE = 0x01) && decide (t.rd 0xFFFF = 0x80)) = true := by
  decide

/-- V48.32, `RETI` (R412). -/
theorem test_v48_32 :
    ends (put 0xE000 [0x34, 0x12] (code [0xED, 0x4D] { State.reset with sp := 0xE000, iff1 := true, iff2 := false }))
      (fun t => decide (t.sp = 0xE002) && decide (t.pc = 0x1234) && decide (t.iff1 = false) &&
        decide (t.tStates = 14)) = true := by
  decide

/-- V49.3, `IN r,(C)` (R421). -/
theorem test_v49_3 :
    ends
      (code [0xED, 0x78]
        { State.reset with
          main := { Bank.zero with b := 0x10, c := 0xBE, f := Flags.ofByte 0x01 }
          vdp := { State.reset.vdp with readbuf := 0x5A } })
      (fun t => decide (t.main.a = 0x5A) && decide (t.main.f.s = false) && decide (t.main.f.z = false) &&
        decide (t.main.f.h = false) && decide (t.main.f.p = true) && decide (t.main.f.n = false) &&
        decide (t.main.f.c = true) && decide (t.pc = 0x0002) && decide (t.tStates = 12)) = true := by
  decide

/-- V49.8, `INI` (R422). -/
theorem test_v49_8 :
    ends
      (code [0xED, 0xA2]
        { State.reset with
          main := { Bank.zero with b := 0x02, c := 0xBE, h := 0xC0, f := Flags.ofByte 0x01 }
          vdp := { State.reset.vdp with readbuf := 0x5A } })
      (fun t => decide (t.main.f.z = false) && decide (t.main.f.n = true) && decide (t.main.f.c = true) &&
        decide (t.main.b = 0x01) && decide (t.main.l = 0x01) && decide (t.pc = 0x0002) && decide (t.tStates = 16) &&
        decide (t.rd 0xC000 = 0x5A)) = true := by
  decide

/-- V49.15, `OTDR` (R431). -/
theorem test_v49_15 :
    ends (put 0xC000 [0x11] (code [0xED, 0xBB] { State.reset with main := { Bank.zero with c := 0xBE, h := 0xC0 } }))
      (fun t => decide (t.main.f.z = false) && decide (t.main.f.n = true) && decide (t.main.f.c = false) &&
        decide (t.main.b = 0xFF) && decide (t.main.h = 0xBF) && decide (t.main.l = 0xFF) &&
        decide (t.tStates = 21)) = true := by
  decide

/-- V49.16, `OUT (n),A` (R426). -/
theorem test_v49_16 :
    ends (code [0xD3, 0x10] { State.reset with main := { Bank.zero with a := 0x01 } })
      (fun t => decide (t.pc = 0x0002) && decide (t.fault = some (.invalidPort 0x10))) = true := by
  decide

/-- V49.19, `OUTI` (R428). -/
theorem test_v49_19 :
    ends
      (put 0xC000 [0x11] (code [0xED, 0xA3]
        { State.reset with
          main := { Bank.zero with b := 0x02, c := 0x10, h := 0xC0 } }))
      (fun t => decide (t.main.b = 0x01) && decide (t.pc = 0x0002) &&
        decide (t.fault = some (.invalidPort 0x10))) = true := by
  decide

/-- V60.1, `(discarded prefix)` (R97). -/
theorem test_v60_1 :
    ends (code [0xDD, 0x00] State.reset)
      (fun t => decide (t.pc = 0x0001)) = true := by
  decide

/-- V60.7, `(step algorithm)` (R442). -/
theorem test_v60_7 :
    ends (code [0x00] { State.reset with nmiPending := true, sp := 0xE000, iff1 := true, iff2 := true, pc := 0x1234 })
      (fun t => decide (t.sp = 0xDFFE) && decide (t.pc = 0x0066) && decide (t.iff1 = false) &&
        decide (t.nmiPending = false) && decide (t.rd 0xDFFE = 0x34) && decide (t.rd 0xDFFF = 0x12)) = true := by
  decide

/-- V60.8, `(step algorithm)` (R443). -/
theorem test_v60_8 :
    ends
      (code [0x00]
        { State.reset with
          intPending := true
          im := .im1
          iff1 := true
          iff2 := true
          sp := 0xE000
          pc := 0x1234 })
      (fun t => decide (t.sp = 0xDFFE) && decide (t.pc = 0x0038) && decide (t.iff1 = false) &&
        decide (t.iff2 = false) && decide (t.intPending = false) && decide (t.rd 0xDFFE = 0x34) &&
        decide (t.rd 0xDFFF = 0x12)) = true := by
  decide

/-- V60.9, `(step algorithm)` (R443). -/
theorem test_v60_9 :
    ends (code [0x00] { State.reset with intPending := true, im := .im1, iff1 := false, iff2 := false, sp := 0xE000 })
      (fun t => decide (t.pc = 0x0001) && decide (t.tStates = 4)) = true := by
  decide

/-- V60.14, `(step algorithm)` (R444). -/
theorem test_v60_14 :
    ends
      (code [0x00]
        { State.reset with
          halted := true
          intPending := true
          im := .im1
          iff1 := false
          pc := 0x0101 })
      (fun t => decide (t.tStates = 4)) = true := by
  decide

/-- V60.20, `(unknown: half-index key)` (R98). -/
theorem test_v60_20 :
    ends (code [0xFD, 0x7C] State.reset)
      (fun t => decide (t.pc = 0x0002) && decide (t.fault = some (.unknownOpcode (.fd 0x7C)))) = true := by
  decide

/-- V60.22, `(unknown: FDCB with z != 6)` (R98). -/
theorem test_v60_22 :
    ends (code [0xFD, 0xCB, 0xFE, 0x47] { State.reset with iy := 0xC000 })
      (fun t => decide (t.pc = 0x0004) && decide (t.fault = some (.unknownOpcode (.fdcb 0xFE 0x47)))) = true := by
  decide

/-- V60.24, `LD r,n` (R131). -/
theorem test_v60_24 :
    ends (put 0x0000 [0x99] (code [0x3E] { State.reset with pc := 0xFFFF }))
      (fun t => decide (t.main.a = 0x99) && decide (t.pc = 0x0001) && decide (t.tStates = 7)) = true := by
  decide

/-! ### The driver and the VDP: rows of sections S4 and V61, and the counts of the rules -/

/-- One step answers a next state that meets `p`. -/
def steps (s : State) (p : State → Bool) : Bool :=
  match step s with
  | .next t => p t
  | .fault _ => false
  | .refused _ => false

/-- A NOP from reset: 4 T-states are 6 VDP cycles (R467). -/
theorem test_driver_ticks_from_reset :
    steps (code [0x00] State.reset) (fun t => decide (t.vdp.hcount = 6) && decide (t.acc = 0) &&
      decide (t.pc = 1) && decide (t.tStates = 4)) = true := by
  decide

/-- `LD A,n` from reset: 7 T-states are 10 VDP cycles and one half cycle carried (R467). -/
theorem test_driver_carries_half_cycle :
    steps (code [0x3E, 0x05] State.reset) (fun t => decide (t.vdp.hcount = 10) && decide (t.acc = 1)) = true := by
  decide

/-- A machine that holds a fault is stuck (R452). -/
theorem test_held_fault_is_stuck :
    (match step { State.reset with fault := some (.invalidPort 0x01) } with
      | .fault f => decide (f = .invalidPort 0x01)
      | .next _ => false
      | .refused _ => false) = true := by
  decide

/-- The step that raises does not tick the VDP (R452, R467). -/
theorem test_raising_step_does_not_tick :
    steps (code [0xED, 0x00] State.reset) (fun t =>
      decide (t.fault = some (.unknownOpcode (.ed 0x00))) && decide (t.vdp.hcount = 0) &&
        decide (t.pc = 2)) = true := by
  decide

/-- The host's reset clears a fault, and the image runs at once: `LD A,n` (R452, R466, R540). -/
theorem test_host_reset_recovers :
    steps
      { State.reset with
        fault := some (.invalidPort 0x01)
        pc := 0x1234
        inputs := [{ HostInput.idle with reset := some [(0, 0x3E), (1, 0x77)] }] }
      (fun t => decide (t.fault = none) && decide (t.main.a = 0x77) && decide (t.pc = 2) &&
        decide (t.inputs = [])) = true := by
  decide

/-- The host's NMI enters 0x0066 in the same turn and adds no T-state (R442, R466). -/
theorem test_host_nmi :
    steps { State.reset with sp := 0xD000, inputs := [{ HostInput.idle with nmi := true }] }
      (fun t => decide (t.pc = 0x0066) && decide (t.sp = 0xCFFE) && decide (t.tStates = 0) &&
        decide (t.nmiPending = false)) = true := by
  decide

/-- HALT sets the latch and goes on past its byte (R286). -/
theorem test_halt :
    ends (code [0x76] State.reset) (fun t => decide (t.halted = true) && decide (t.pc = 1) &&
      decide (t.tStates = 4)) = true := by
  decide

/-- S4: two control writes x, 0x80 + k put x into VR[k]; here VR[10], the largest. -/
theorem test_vdp_register_write :
    ((State.reset.vdp.writeControl 0x5A).writeControl 0x8A).vr[10] = 0x5A := by decide

/-- A VRAM write through the port: the address set with code 1, then data; the buffer mirrors it (R484, R486). -/
theorem test_vdp_vram_write :
    let v := ((State.reset.vdp.writeControl 0x00).writeControl 0x40).writeData 0x9C
    Vram.read v.vram 0 = 0x9C ∧ v.addr = 1 ∧ v.readbuf = 0x9C ∧ v.code = 1 := by decide

/-- A CRAM write: code 3, index modulo 32 (R486). -/
theorem test_vdp_cram_write :
    let v := ((State.reset.vdp.writeControl 0x21).writeControl 0xC0).writeData 0x3F
    v.cram[1] = 0x3F ∧ v.vram = [] ∧ v.addr = 0x22 := by decide

/-- The frame interrupt at line 0xC1, with VR[1] bit 5 clear (R501, R503). -/
theorem test_vdp_frame_interrupt :
    let v := ({ State.reset.vdp with vcount := 0xC0, hcount := 341 } : Vdp).tick 1 true
    v.vcount = 0xC1 ∧ v.hcount = 0 ∧ v.irqPending = true ∧ v.status = 0x80 := by decide

/-- The line counter reloads on underflow and raises the line interrupt when VR[0] bit 4 is set (R502). -/
theorem test_vdp_line_interrupt :
    let v : Vdp := { State.reset.vdp with vr := (State.reset.vdp.vr.set 0 0x10).set 10 0x07 }
    (v.scanline true).linecnt = 0x07 ∧ (v.scanline true).irqPending = true ∧
      (({ v with linecnt := 1 } : Vdp).scanline true).irqPending = false := by decide

/-- The one jump of the vertical counter (R498). -/
theorem test_vdp_vertical_jump :
    ({ State.reset.vdp with vcount := 0xDA } : Vdp).advanceV.vcount = 0xD5 ∧
      ({ State.reset.vdp with vcount := 0xDA, vjump := true } : Vdp).advanceV.vcount = 0xDB ∧
      ({ State.reset.vdp with vcount := 0xFF, vjump := true } : Vdp).advanceV.vjump = false := by decide

/-- `Colour(0x3F)` is white, `Colour(0x03)` the full red (R508). -/
theorem test_vdp_colours :
    colour 0x3F = ⟨255, 255, 255⟩ ∧ colour 0x03 = ⟨255, 0, 0⟩ ∧ colour 0x30 = ⟨0, 0, 255⟩ := by decide

/-- Port writes to the VDP: `false` for `WriteControl`, `true` for `WriteData`. -/
def portWrites (l : List (Bool × Byte)) (v : Vdp) : Vdp :=
  l.foldl (fun v e => if e.1 then v.writeData e.2 else v.writeControl e.2) v

/-- V61.12: the register number is the low four bits of the second byte (R484). -/
theorem test_v61_12 :
    let v := portWrites [(false, 0xAB), (false, 0xB1)] State.reset.vdp
    v.vr[1] = 0xAB ∧ v.addr = 0x31AB ∧ v.code = 2 := by decide

/-- V61.13 and V61.14: the pre-fetch wraps, and a data read refills the buffer (R484, R488). -/
theorem test_v61_13_14 :
    let v := portWrites [(false, 0xFF), (false, 0x3F)]
      { State.reset.vdp with vram := [(0, 0x42), (0x3FFF, 0x99)] }
    (v.readbuf = 0x99 ∧ v.addr = 0 ∧ v.code = 0) ∧ v.afterReadData.readbuf = 0x42 ∧ v.afterReadData.addr = 1 := by
  decide

/-- V61.15: a data write clears the latch and uses the half-written address (R486). -/
theorem test_v61_15 :
    let v := portWrites [(false, 0x10), (true, 0x55)] State.reset.vdp
    Vram.read v.vram 0x10 = 0x55 ∧ v.readbuf = 0x55 ∧ v.addr = 0x11 ∧ v.latch = false := by decide

/-- V61.32: ticks accumulate over several lines (R497). -/
theorem test_v61_32 :
    let v := ((State.reset.vdp.tick 341 false).tick 1 false).tick 1000 false
    v.hcount = 316 ∧ v.vcount = 3 := by decide

/-- The set-up of R511: 96 port writes. -/
def pictureWrites : List (Bool × Byte) :=
  [(false, 0x40), (false, 0x81), (false, 0x0E), (false, 0x82), (false, 0x7F), (false, 0x85), (false, 0x00),
    (false, 0xC0), (true, 0x01), (false, 0x05), (false, 0xC0), (true, 0x3F), (false, 0x13), (false, 0xC0),
    (true, 0x30), (false, 0x20), (false, 0x40)] ++
  (List.replicate 8 [(true, 0xFF#8), (true, 0x00#8), (true, 0xFF#8), (true, 0x00#8)]).flatten ++
  (List.replicate 8 [(true, 0xFF#8), (true, 0xFF#8), (true, 0x00#8), (true, 0x00#8)]).flatten ++
  [(false, 0x06), (false, 0x78), (true, 0x01), (true, 0x00), (false, 0x00), (false, 0x7F), (true, 0x00),
    (true, 0x00), (true, 0xD0), (false, 0x80), (false, 0x7F), (true, 0x1C), (true, 0x02), (true, 0x1E), (true, 0x02)]

/-- The VDP after the set-up of R511. -/
def pictureVdp : Vdp := portWrites pictureWrites State.reset.vdp

/-- R511 counts 96 port writes. -/
theorem test_picture_writes : pictureWrites.length = 96 := by decide

/-- V61.20 (R512 a): pixels of line 1 at the ends of its runs, and the collision bit. -/
theorem test_v61_20 :
    let ls := pictureVdp.drawSprites 1
    let px := fun x => pictureVdp.backgroundPixel 1 x (ls.1.getD x none)
    ls.2 = 0x20 ∧ px 23 = ⟨85, 0, 0⟩ ∧ px 24 = ⟨255, 255, 255⟩ ∧ px 27 = ⟨255, 255, 255⟩ ∧ px 28 = ⟨0, 0, 255⟩ ∧
      px 37 = ⟨0, 0, 255⟩ ∧ px 38 = ⟨85, 0, 0⟩ := by
  decide +kernel

/-- V61.21 (R512 b): with priority the tile covers the sprites. -/
theorem test_v61_21 :
    let v := portWrites [(false, 0x06), (false, 0x78), (true, 0x01), (true, 0x10)] pictureVdp
    let ls := v.drawSprites 1
    let px := fun x => v.backgroundPixel 1 x (ls.1.getD x none)
    ls.2 = 0x20 ∧ px 24 = ⟨255, 255, 255⟩ ∧ px 31 = ⟨255, 255, 255⟩ ∧ px 32 = ⟨0, 0, 255⟩ := by
  decide +kernel

/-! ### Parameters other than the defaults (R7) -/

/-- `Ports`: a port registered for reading answers a device's byte, whatever it is; one that is not raises (R66,
R451). -/
theorem test_params_ports_read :
    let s : State := { State.reset with params := { Params.default with readPorts := [0x01] } }
    execInAPortN 0x01 s = .next ((({ s with draws := 1 } : State).setA (Config.deviceByte 0x01 0)).addT 11) ∧
      execInAPortN 0x02 s = .next { s with fault := some (.invalidPort 0x02) } := ⟨rfl, rfl⟩

/-- `Ports`: the VDP at other addresses (D43), and a port registered for writing. -/
theorem test_params_ports_write :
    let s : State := { State.reset with params := { Params.default with vdpPort := 0x4C, writePorts := [0x02] } }
    s.params.dataPort = 0x98 ∧ s.params.ctrlPort = 0x99 ∧
      execOutPortNA 0x99 s = .next { s with vdp := s.vdp.writeControl 0x00, tStates := 11 } ∧
      execOutPortNA 0x02 s = .next { s with tStates := 11 } ∧
      execOutPortNA 0xBF s = .next { s with fault := some (.invalidPort 0xBF) } := by
  refine ⟨by decide, by decide, rfl, rfl, rfl⟩

/-- A machine whose driver transfers the interrupt line on its edge, the line raised. -/
def edgeState : State :=
  { State.reset with
    params := { Params.default with feed := .edge }
    vdp := { State.reset.vdp with irqPending := true } }

/-- `Driver`: the edge transfer sets `int_pending` and clears `irq_pending` (D20). -/
theorem test_params_edge_feed :
    edgeState.feedInterrupt.intPending = true ∧ edgeState.feedInterrupt.vdp.irqPending = false ∧
      ({ edgeState with intPending := true, vdp := State.reset.vdp } : State).feedInterrupt.intPending = true := by
  decide

/-- `DiscardSet`: another set moves the border between the class rows and no instruction (R97, R98(c), D2). -/
theorem test_params_discard :
    let p : Params := { Params.default with discard := [(0x24, 0x26)] }
    p.classify (decode4 0xDD 0x24 0 0) = .discardedPrefixDd 0x24 ∧
      p.classify (decode4 0xFD 0x00 0 0) = .unknownHalfIndexFd 0x00 ∧
      p.classify (decode4 0xDD 0x21 0x34 0x12) = .ldIxNn 0x1234 := by decide

/-- `Cost` and `TickScale`: NOP at 5 T-states, 7 VDP cycles for 4 T-states: 8 cycles, and 3 quarters carried. -/
theorem test_params_cost_and_tick_scale :
    let p : Params := { Params.default with cost := [(5, 5)], tickNum := 7, tickDen := 4 }
    steps (code [0x00] { State.reset with params := p }) (fun t =>
      decide (t.tStates = 5) && decide (t.vdp.hcount = 8) && decide (t.acc = 3)) = true := by
  decide

/-- `BLANK_WHEN` 1 turns the meaning of VR[1] bit 6 round (R500, D44). -/
theorem test_params_blank_when :
    let v : Vdp := { State.reset.vdp with vr := State.reset.vdp.vr.set 1 0x40 }
    let turned : Screen := { Screen.default with blankWhen := true }
    State.reset.vdp.displayShown = false ∧ v.displayShown = true ∧
      ({ State.reset.vdp with screen := turned } : Vdp).displayShown = true ∧
      ({ v with screen := turned } : Vdp).displayShown = false := by decide

/-- A `ResetState` that overrides SP, IM, `TStates`, `VR[1]` and the counters, each at an end of its range. -/
def ownReset : ResetState :=
  let r := ResetState.ofTable Unspecified.zero
  { r with
    sp := 0xDFF0
    im := .im1
    tStates := 7
    vdp := { r.vdp with vr := r.vdp.vr.set 1 0x40, hcount := 341, vcount := 0xFF, vjump := true } }

/-- `ResetState`: a reset by the host during a run puts in the overridden lines too, clears the fault and `acc`, and
keeps `ResetState` (R41, R540, D11). -/
theorem test_params_reset_state :
    let s : State := { State.reset with resetState := ownReset, fault := some (.invalidPort 0x00), acc := 1, pc := 9 }
    let t := s.hostReset [(0, 0x76)]
    t.sp = 0xDFF0 ∧ t.im = .im1 ∧ t.tStates = 7 ∧ t.vdp = ownReset.vdp ∧ t.pc = 0 ∧ t.fault = none ∧ t.acc = 0 ∧
      t.resetState = ownReset ∧ t.fetchInstr = .halt := by decide

/-- `Mem`: another component sees a read of LD A,(nn), and the low byte stored before the high one by LD (nn),HL (R11,
R62, R76). -/
theorem test_params_component (m : List Host.Cell) (nn : Word) :
    let s : State := { State.reset with mem := .component m }
    (∃ t, execLdAIndNn nn s = .next t ∧ t.main.a = Config.componentRead m nn ∧
      t.mem = .component (Config.componentAfterRead m nn)) ∧
      ∃ t, execLdIndNnHl nn s = .next t ∧
        t.mem =
          .component
            (Config.componentWrite (Config.componentWrite m nn (loByte s.main.hl)) (nn + 1) (hiByte s.main.hl)) :=
  ⟨⟨_, rfl, rfl, rfl⟩, _, rfl, rfl⟩

/-! ### The host's view of the fetch -/

/-- The key of the table word, its first byte in the highest bits (log entry 17). -/
theorem test_table_word :
    decodeTableWord 8 0x76 = some .halt ∧ decodeTableWord 16 0xEDB0 = some .ldir ∧
      decodeTableWord 32 0xDDCB055E = some (.bitBIxd 3 0x05) := by decide

theorem test_with_fetch_word : (State.reset.withFetchWord 16 0xED44).fetchInstr = .neg := by decide

/-! ### Witnesses: for every obligation with hypotheses, a state and operands that meet all of them; with several
clauses, one for each, at the ends of their ranges -/

/-- Does an answer go on to a next state? -/
def goesOn : Out → Bool
  | .next _ => true
  | .fault _ => false
  | .refused _ => false

theorem exists_of_goesOn {o : Out} (h : goesOn o = true) : ∃ t, o = .next t := by
  cases o with
  | next t => exact ⟨t, rfl⟩
  | fault f => cases h
  | refused r => cases h

theorem witness_EncodingsMatchTheOpcodeTable :
    (Instr.ldRN .a 0x05).WellFormed ∧ (Instr.unknownEd 0xFF).WellFormed ∧ (Instr.discardedPrefixDd 0xFF).WellFormed ∧
      (Instr.discardedPrefixFd 0x00).WellFormed := by decide

theorem witness_DecodeInvertsEncode :
    (Instr.bitBIxd 7 0x80).WellFormed ∧ (Instr.unknownFdcb 0x00 0x00).WellFormed ∧
      (Instr.unknownHalfIndexDd 0x24).WellFormed := by decide

/-- A canonical memory with entries at both ends of the address space. -/
theorem witness_MemoryIsAFlatArrayOfBytes :
    let m : List Host.Cell := [(0, 0x01), (65535, 0x02)]
    State.reset.mem.isFlat = true ∧ Memory.wf m = true ∧ ∀ x, (Mem.flat m).read x = (Mem.flat m).read x :=
  ⟨rfl, by decide, fun _ => rfl⟩

/-- The hypotheses of the run, and both forms of the feeding. -/
theorem witness_StepRunsTheDecodedInstruction :
    let u := (code [0x3E, 0x05] State.reset).afterInput.feedInterrupt
    u.fault = none ∧ u.nmiPending = false ∧ ¬(u.intPending = true ∧ u.im = .im1 ∧ u.iff1 = true) ∧
      u.halted = false ∧
      decode [u.fetchByte 0, u.fetchByte 1, u.fetchByte 2, u.fetchByte 3] = .ok (.ldRN .a 0x05, [0x00, 0x00]) ∧
      State.reset.params.feed = .level ∧ edgeState.params.feed = .edge := by decide

/-- A machine with an NMI pending, beside a request that would be accepted and the halt latch. -/
def nmiState : State :=
  { State.reset with nmiPending := true, intPending := true, im := .im1, iff1 := true, halted := true }

theorem witness_NmiEntryPushesPcAndGoesTo0066 : nmiState.nmiPending = true := rfl

/-- A halted machine that accepts a maskable request. -/
def intState : State := { State.reset with intPending := true, im := .im1, iff1 := true, halted := true }

theorem witness_MaskableEntryPushesPcAndGoesTo0038 :
    intState.nmiPending = false ∧ intState.intPending = true ∧ intState.im = .im1 ∧ intState.iff1 = true := by decide

/-- The four ways in which a halted CPU accepts nothing. -/
theorem witness_HaltedCpuIdlesFourTStates :
    ∀ s ∈
      [{ intState with intPending := false }, { intState with im := .im0 }, { intState with im := .im2 },
        { intState with iff1 := false }],
      s.halted = true ∧ s.nmiPending = false ∧
        (s.intPending = false ∨ s.im = .im0 ∨ s.im = .im2 ∨ s.iff1 = false) := by decide

theorem witness_PendingRequestIsNeverDropped :
    let s : State := { State.reset with intPending := true, im := .im1 }
    s.nmiPending = false ∧ ¬(s.intPending = true ∧ s.im = .im1 ∧ s.iff1 = true) ∧ ∃ t, cpuStep s = .next t := by
  refine ⟨rfl, by decide, exists_of_goesOn ?_⟩
  decide

/-- The same with EI and HALT at PC, the request pending through EI's nested step. -/
theorem witness_PendingRequestIsNeverDropped_ei :
    let s : State := code [0xFB, 0x76] { State.reset with intPending := true, im := .im1 }
    s.nmiPending = false ∧ ¬(s.intPending = true ∧ s.im = .im1 ∧ s.iff1 = true) ∧ goesOn (cpuStep s) = true := by
  refine ⟨rfl, by decide, ?_⟩
  decide

/-- A machine that holds a fault. -/
def faultState : State := { State.reset with fault := some (.invalidPort 0x00) }

/-- The same, with a reset by the host to come. -/
def resetInputState : State :=
  { faultState with inputs := [{ HostInput.idle with reset := some [(0, 0x76)] }] }

theorem witness_FaultHoldsUntilTheHostResets :
    (faultState.fault = some (.invalidPort 0x00) ∧ faultState.nextInput.reset = none) ∧
      resetInputState.nextInput.reset = some [(0, 0x76)] ∧ resetInputState.resetState.fault = none := by decide

/-- A step without a fault, one that raises, and a level-fed machine. -/
theorem witness_DriverScalesTStatesToVdpCycles :
    let s := code [0xED, 0x00] State.reset
    (∃ u, (State.reset.afterInput.fault = none ∧ cpuStep State.reset.afterInput.feedInterrupt = .next u) ∧
      u.fault = none ∧ 0 < u.params.tickDen) ∧
      (∃ u, (s.afterInput.fault = none ∧ cpuStep s.afterInput.feedInterrupt = .next u) ∧ u.fault ≠ none) ∧
      State.reset.params.feed = .level := by
  exact ⟨⟨_, ⟨rfl, rfl⟩, by decide⟩, ⟨_, ⟨rfl, rfl⟩, by decide⟩, rfl⟩

theorem witness_ResetTakesResetStateAndMeetsTheInvariant :
    (0 < Params.default.tickDen ∧ (Mem.flat [(0, 0x76)]).wf = true ∧ ownReset.vdp.inv = true) ∧
      Vram.wf [(16383, 0x01)] = true ∧ Fb.wf [(191, List.replicate 256 ⟨1, 2, 3⟩)] = true := by decide +kernel

theorem witness_EveryStepKeepsTheInvariant : State.reset.Inv ∧ ∃ t, step State.reset = .next t :=
  ⟨by decide, exists_of_goesOn (by decide)⟩

theorem witness_OnlyUnknownKeysAndPortsRaise :
    Instr.unknownEd 0x00 ≠ .ei ∧ Instr.inAPortN 0xFF ≠ .ei ∧ Instr.nop ≠ .ei := by decide

/-- Both clauses: an instruction that is neither LD R,A nor EI, and LD R,A. -/
theorem witness_OnlyLdRAChangesBitSevenOfR :
    ((∃ t, cpuStep State.reset = .next t) ∧ State.reset.fetchInstr ≠ .ldRA ∧ State.reset.fetchInstr ≠ .ei) ∧
      let s := code [0xED, 0x4F] State.reset
      (∃ t, cpuStep s = .next t) ∧ s.nmiPending = false ∧ s.intPending = false ∧ s.halted = false ∧
        s.fetchInstr = .ldRA :=
  ⟨⟨exists_of_goesOn (by decide), by decide, by decide⟩, exists_of_goesOn (by decide), rfl, rfl, rfl, by decide⟩

theorem witness_EveryInstructionAddsItsCost : Instr.ldir ≠ .ei ∧ Instr.unknownDdcb 0 0 ≠ .ei := by decide

/-- LD A,n leaves B; the discarded prefix leaves A. -/
theorem witness_InstructionsWriteOnlyTheirRegisters :
    Instr.ldRN .a 0 ≠ .ei ∧ Place.b ∉ writes (.ldRN .a 0) ∧ Place.a ∉ writes (.discardedPrefixDd 0) := by decide

/-- PUSH BC at SP = 1 stores at 0x0000 and 0xFFFF and not at 0x0001; NOP and INI from port 0x00 store nothing. -/
theorem witness_InstructionsStoreOnlyWhereTheirRulesSay :
    let s : State := { State.reset with sp := 1 }
    s.mem.isFlat = true ∧ Instr.pushQq .bc ≠ .ei ∧ storesTo s (.pushQq .bc) = [0x0000, 0xFFFF] ∧
      (0x0001 : Word) ∉ storesTo s (.pushQq .bc) ∧ Instr.nop ≠ .ei ∧ storesTo s .nop = [] ∧ Instr.ini ≠ .ei ∧
      storesTo s .ini = [] := by decide

/-- No port operation, and one on a port that is not the VDP's. -/
theorem witness_OnlyPortOperationsReachTheVdp :
    Instr.nop ≠ .ei ∧ portOf State.reset .nop = none ∧ Instr.inAPortN 0xBD ≠ .ei ∧
      portOf State.reset (.inAPortN 0xBD) = some (0xBD, [], false) ∧ vdpPort State.reset 0xBD = false := by decide

/-- The hypothesis of the block moves, for each of the four. -/
theorem witness_BlockMovesMoveOneByteAStep :
    ∀ i ∈ [(Instr.ldi, (1 : Word), false), (.ldd, 0xFFFF, false), (.ldir, 1, true), (.lddr, 0xFFFF, true)],
      i ∈ [(Instr.ldi, (1 : Word), false), (Instr.ldd, 0xFFFF, false), (Instr.ldir, 1, true),
        (Instr.lddr, 0xFFFF, true)] := by decide

/-- The hypothesis of the block searches, for each of the four. -/
theorem witness_BlockSearchesCompareOneByteAStep :
    ∀ i ∈ [(Instr.cpi, (1 : Word), false), (.cpd, 0xFFFF, false), (.cpir, 1, true), (.cpdr, 0xFFFF, true)],
      i ∈ [(Instr.cpi, (1 : Word), false), (Instr.cpd, 0xFFFF, false), (Instr.cpir, 1, true),
        (Instr.cpdr, 0xFFFF, true)] := by decide

/-- A repeating and a finished iteration of LDIR, and of CPIR with a match. -/
theorem witness_block_repeats :
    ({ State.reset with main := { Bank.zero with c := 2 } } : State).main.bc ≠ 1 ∧
      ({ State.reset with main := { Bank.zero with c := 1 } } : State).main.bc = 1 ∧
      State.reset.main.a = State.reset.rd State.reset.main.hl := by decide

theorem witness_DaaFollowsItsAlgorithm :
    State.reset.main.f.n = false ∧
      ({ State.reset with main := { Bank.zero with f := Flags.ofByte 0x02 } } : State).main.f.n = true := by decide

theorem witness_DaaCorrectsBcdArithmetic :
    IsBcd State.reset.main.a ∧ IsBcd 0x99 ∧ IsBcd 0x00 ∧
      IsBcd ({ State.reset with main := { Bank.zero with a := 0x99 } } : State).main.a := by
  refine ⟨?_, ?_, ?_, ?_⟩ <;> exact ⟨by decide, by decide⟩

/-- The first `n` addresses hold EI. -/
def eiState (n : Nat) : State := { State.reset with mem := .flat ((List.range n).map fun a => (a, 0xFB#8)) }

theorem get_append_entry (m : List Host.Cell) (n a : Nat) (h : ∀ e ∈ m, e.1 < n) :
    Store.get 0x00#8 (m ++ [(n, 0xFB#8)]) a = if a = n then 0xFB#8 else Store.get 0x00#8 m a := by
  induction m with
  | nil => simp [Store.get, eq_comm]
  | cons e rest ih =>
    have he := h e (by simp)
    have ih := ih fun e' h' => h e' (by simp [h'])
    by_cases ha : e.1 = a
    · have hne : a ≠ n := by omega
      simp [Store.get, ha, hne]
    · simp [Store.get, ha, ih]

theorem get_ei (n a : Nat) :
    Store.get 0x00#8 ((List.range n).map fun a => (a, 0xFB#8)) a = if a < n then 0xFB#8 else 0x00#8 := by
  induction n with
  | zero => rfl
  | succ n ih =>
    rw [List.range_succ, List.map_append, List.map_singleton, get_append_entry _ n a (by simp), ih]
    by_cases h : a = n
    · simp [h]
    · have : a < n + 1 ↔ a < n := by omega
      simp [h, this]

theorem rd_eiState (n : Nat) (x : Word) : (eiState n).rd x = if x.toNat < n then 0xFB#8 else 0x00#8 :=
  get_ei n x.toNat

/-- The instruction fetched after `m` others, from a machine whose first `n` addresses hold EI. -/
theorem fetchInstr_eiState (n : Nat) {m : Nat} (h : m < 65536) :
    ((eiState n).skip m).fetchInstr = if m < n then .ei else .nop := by
  have hf : (eiState n).mem.isFlat = true := rfl
  have hb : ((eiState n).skip m).fetchByte 0 = if m < n then 0xFB#8 else 0x00#8 := by
    rw [State.skip_of_isFlat hf, State.fetchByte_of_isFlat (by exact hf)]
    show (eiState n).rd (0x0000#16 + BitVec.ofNat 16 m + BitVec.ofNat 16 0) = _
    rw [rd_eiState]
    have hm : (0x0000#16 + BitVec.ofNat 16 m + BitVec.ofNat 16 0).toNat = m := by simp; omega
    rw [hm]
  unfold State.fetchInstr
  rw [hb]
  by_cases hmn : m < n
  · rw [if_pos hmn, if_pos hmn]; rfl
  · rw [if_neg hmn, if_neg hmn]; rfl

/-- `k` further EI opcodes, then a NOP: met for every `k` of the rule, 0 and the largest, 65,535, among them. -/
theorem witness_EiRunsOneMoreInstructionThenEnables (k : Nat) (h : k < 65536) :
    let s := eiState k
    s.nmiPending = false ∧ ¬(s.intPending = true ∧ s.im = .im1 ∧ s.iff1 = true) ∧ s.halted = false ∧
      (∀ m, m < k → (s.skip m).fetchInstr = .ei) ∧ (s.skip k).fetchInstr ≠ .ei := by
  refine ⟨rfl, (fun hc => nomatch hc.1), rfl, ?_, ?_⟩
  · intro m hm
    rw [fetchInstr_eiState k (by omega), if_pos hm]
  · rw [fetchInstr_eiState k h, if_neg (by omega)]
    decide

/-- A machine all of whose memory holds EI. -/
theorem witness_EndlessEiIsAStuckMachine :
    let s := eiState 65536
    (∀ m, (s.skip m).fetchInstr = .ei) ∧ s.mem.isFlat = true ∧ (∀ x, s.rd x = 0xFB) ∧ s.nmiPending = false ∧
      ¬(s.intPending = true ∧ s.im = .im1 ∧ s.iff1 = true) ∧ s.halted = false := by
  refine ⟨fun m => ?_, rfl, fun x => ?_, rfl, (fun hc => nomatch hc.1), rfl⟩
  · have hs : (eiState 65536).skip m = (eiState 65536).skip (m % 65536) := by
      rw [State.skip_of_isFlat rfl, State.skip_of_isFlat rfl]
      have : BitVec.ofNat 16 m = BitVec.ofNat 16 (m % 65536) := by
        apply BitVec.eq_of_toNat_eq
        simp
      rw [this]
    rw [hs, fetchInstr_eiState 65536 (by omega), if_pos (by omega)]
  · rw [rd_eiState, if_pos x.isLt]
    rfl

/-- The default `Mem`, for the shapes `HoldsByte` and `HoldsBytes` of every statement about a store or a push. -/
theorem witness_HoldsByte :
    State.reset.mem.isFlat = true ∧ nmiState.mem.isFlat = true ∧ intState.mem.isFlat = true := by decide

/-- The default `Mem`, in which what was pushed is popped. -/
theorem witness_PopAfterPushGivesTheWordBack : State.reset.mem.isFlat = true := rfl

theorem witness_ReturnsComeBackToTheInterruptedPc :
    (nmiState.mem.isFlat = true ∧ nmiState.nmiPending = true) ∧ intState.mem.isFlat = true ∧
      intState.nmiPending = false ∧ intState.intPending = true ∧ intState.im = .im1 ∧ intState.iff1 = true := by
  decide

/-- A machine with port 0x01 registered for reading and port 0x02 for writing, C holding `c`. -/
def deviceState (c : Byte) : State :=
  { State.reset with
    params := { Params.default with readPorts := [0x01], writePorts := [0x02] }
    main := { Bank.zero with c := c, a := 0x12 } }

/-- Both of the VDP's ports, for reads and writes, as operand and in C, and a device's port for each. -/
theorem witness_InAndOutTransferOneByte :
    (∀ n ∈ [0xBE#8, 0xBF#8],
      let s := deviceState n
      (∃ v u, portIn s n = some (v, u)) ∧ (∃ v u, portIn s s.main.c = some (v, u)) ∧
        (∃ u, portOut s n s.main.a = some u) ∧ ∃ u, portOut s s.main.c (s.r8 .h) = some u) ∧
      (∃ v u, portIn (deviceState 1) (deviceState 1).main.c = some (v, u)) ∧
      ∃ u, portOut (deviceState 2) (deviceState 2).main.c (deviceState 2).main.a = some u := by
  refine ⟨?_, ⟨_, _, rfl⟩, ⟨_, rfl⟩⟩
  intro n hn
  simp only [List.mem_cons, List.not_mem_nil, or_false] at hn
  rcases hn with rfl | rfl <;> exact ⟨⟨_, _, rfl⟩, ⟨_, _, rfl⟩, ⟨_, rfl⟩, ⟨_, rfl⟩⟩

/-- The hypotheses of block input and output: each of the eight instructions, C naming either port of the VDP, or a
device's. -/
theorem witness_BlockIoTransfersOneByteAStep :
    (∀ i ∈ [(Instr.ini, (1 : Word), false), (.ind, 0xFFFF, false), (.inir, 1, true), (.indr, 0xFFFF, true)],
      i ∈ [(Instr.ini, (1 : Word), false), (Instr.ind, 0xFFFF, false), (Instr.inir, 1, true),
        (Instr.indr, 0xFFFF, true)]) ∧
      (∀ i ∈ [(Instr.outi, (1 : Word), false), (.outd, 0xFFFF, false), (.otir, 1, true), (.otdr, 0xFFFF, true)],
        i ∈ [(Instr.outi, (1 : Word), false), (Instr.outd, 0xFFFF, false), (Instr.otir, 1, true),
          (Instr.otdr, 0xFFFF, true)]) ∧
      (∀ c ∈ [0xBE#8, 0xBF#8, 0x01#8], (portIn (deviceState c) (deviceState c).main.c).isSome = true) ∧
      ∀ c ∈ [0xBE#8, 0xBF#8, 0x02#8],
        let s := deviceState c
        (portOut (s.afterRd s.main.hl) s.main.c (s.rd s.main.hl)).isSome = true := by decide

/-- The ports beside the registered ones, and the ends of the range, with B counted and not; a port registered for
the other direction only. -/
theorem witness_UnregisteredPortRaisesInvalidPort :
    (∀ lo ∈ [0x00#8, 0xBD#8, 0xC0#8, 0xFF#8],
      let s : State := { State.reset with main := { Bank.zero with c := lo } }
      portOf s (.inAPortN lo) = some (lo, [], false) ∧ portOf s .otir = some (lo, [], true) ∧
        portOf s .ini = some (lo, [], false) ∧ registered s lo [] = false) ∧
      portOf (deviceState 0x01) .outi = some (0x01, [0x02], true) ∧
      registered (deviceState 0x01) 0x01 [0x02] = false ∧ State.reset.params = Params.default :=
  ⟨by decide, by decide, by decide, rfl⟩

/-- Each kind of row: a class row of either sort, and an instruction. -/
theorem witness_UnknownKeysRaiseAndPrefixesAreDiscarded :
    (Instr.unknownHalfIndexDd 0x24).WellFormed ∧ (Instr.unknownHalfIndexFd 0x65).WellFormed ∧
      (Instr.discardedPrefixDd 0x00).WellFormed ∧ (Instr.discardedPrefixFd 0xFF).WellFormed ∧
      Instr.nop.WellFormed := by decide

/-- The first and second control write, each code of the second, and data to CRAM and to VRAM. -/
theorem witness_VdpPortWrites :
    State.reset.vdp.latch = false ∧ ({ State.reset.vdp with latch := true } : Vdp).latch = true ∧
      (0x3F#8).toNat / 64 = 0 ∧ (0x40#8).toNat / 64 = 1 ∧ (0xBF#8).toNat / 64 = 2 ∧ (0xC0#8).toNat / 64 = 3 ∧
      ({ State.reset.vdp with code := 3 } : Vdp).code = 3 ∧ State.reset.vdp.code ≠ 3 := by decide

/-- Reset starts a frame; the clauses meet at 218 and 219, and 261 is the last line. -/
theorem witness_VerticalCounterTakes262LinesAFrame :
    State.reset.vdp.vcount = 0 ∧ State.reset.vdp.vjump = false ∧ 0 ≤ 218 ∧ 218 ≤ 218 ∧ 219 ≤ 219 ∧ 219 ≤ 261 ∧
      261 ≤ 261 := by decide

/-- Both ends of `hcount`, and the two clauses where they meet: 341 cycles and 342. -/
theorem witness_TicksAddUp :
    let late : Vdp := { State.reset.vdp with hcount := 341 }
    State.reset.vdp.hcount.toNat < 342 ∧ late.hcount.toNat < 342 ∧ late.hcount.toNat + 0 < 342 ∧
      342 ≤ late.hcount.toNat + 1 := by decide

/-- A line that is drawn, and three that are not: blanked, not rendered, not active. -/
theorem witness_ScanlineDrawsOnlyItsOwnRow :
    let shown : Vdp := { State.reset.vdp with vr := State.reset.vdp.vr.set 1 0x40 }
    ((shown.scanline true).vcount.toNat < 192 ∧ shown.vr[1].getLsbD 6 ≠ shown.screen.blankWhen) ∧
      ¬(State.reset.vdp.vr[1].getLsbD 6 ≠ State.reset.vdp.screen.blankWhen) ∧ ¬((false : Bool) = true) ∧
      ¬((({ shown with vcount := 0xBF } : Vdp).scanline true).vcount.toNat < 192) := by decide

/-- VRAM all zero but tile 0, whose plane 0 bytes are 0xFF, the name table at 0x3800: column 8 (the first unmasked
one) of line 0 names tile 0. -/
def solidVdp : Vdp :=
  { State.reset.vdp with
    vram := (List.range 8).map fun r => (4 * r, 0xFF#8)
    vr := (State.reset.vdp.vr.set 0 0x20).set 2 0x0E }

theorem witness_SolidTilesPaintOneColour :
    let v := solidVdp
    let u := v.screen.hScroll.column 8 v.vr[8]
    let w := v.nameEntry (v.ntBase + ((0 + (v.vr[9]).toNat) % 224 / 8 * 32 + u / 8) * 2)
    ¬((v.vr[0]).getLsbD 5 = true ∧ 8 < 8) ∧ w = 0 ∧
      ∀ r < 8, v.vramAt (w.toNat % 512 * 32 + r * 4) = 0xFF ∧ v.vramAt (w.toNat % 512 * 32 + r * 4 + 1) = 0x00 ∧
        v.vramAt (w.toNat % 512 * 32 + r * 4 + 2) = 0x00 ∧ v.vramAt (w.toNat % 512 * 32 + r * 4 + 3) = 0x00 := by
  decide

end Sys2Proof.Tests
end

section
/-! SUPPORT. What an instruction other than EI does outside the CPU's registers: one lemma over all instructions for
memory, with the reads and stores of its rule, and one for the VDP, the driver and the parameters. -/

namespace Sys2Proof.Machine

open Sys2Proof Sys2Proof.Rules

/-! ### The port bus (R66, R451) -/

/-- What one port operation can do to the VDP (R484 to R488): nothing, or one of its four operations. -/
inductive Vdp.PortStep (v : Vdp) : Vdp → Prop where
  | none : v.PortStep v
  | readData : v.PortStep v.afterReadData
  | readControl : v.PortStep v.afterReadControl
  | writeData (b : Byte) : v.PortStep (v.writeData b)
  | writeControl (b : Byte) : v.PortStep (v.writeControl b)

theorem registered_eq_true_iff {s : State} {lo : Byte} {more : List Byte} :
    registered s lo more = true ↔ lo = s.params.dataPort ∨ lo = s.params.ctrlPort ∨ more.contains lo = true := by
  simp [registered, vdpPort, or_assoc]

/-- An input from a registered port goes on with some byte, from a state that differs in the VDP and the draw counter
only. -/
theorem State.inThen_of_registered {s : State} {lo : Byte} (h : registered s lo s.params.readPorts = true)
    (hi : Byte) (k : Byte → State → State) :
    ∃ v w d, s.inThen hi lo k = .next (k v { s with vdp := w, draws := d }) ∧ s.vdp.PortStep w := by
  rw [registered_eq_true_iff] at h
  rcases s.inThen_cases hi lo k with ⟨-, e⟩ | ⟨-, e⟩ | ⟨-, -, -, e⟩ | ⟨h1, h2, h3, -⟩
  · exact ⟨_, _, _, e, .readData⟩
  · exact ⟨_, _, _, e, .readControl⟩
  · exact ⟨_, _, _, e, .none⟩
  · exact absurd h (by simpa [h1, h2] using h3)

/-- An input from an unregistered port raises InvalidPort and does nothing else. -/
theorem State.inThen_of_not_registered {s : State} {lo : Byte} (h : ¬registered s lo s.params.readPorts = true)
    (hi : Byte) (k : Byte → State → State) : s.inThen hi lo k = .next (s.raise (.invalidPort lo)) := by
  rw [registered_eq_true_iff] at h
  rcases s.inThen_cases hi lo k with ⟨h1, -⟩ | ⟨h1, -⟩ | ⟨-, -, h1, -⟩ | ⟨-, -, -, e⟩
  · exact absurd (.inl h1) h
  · exact absurd (.inr (.inl h1)) h
  · exact absurd (.inr (.inr h1)) h
  · exact e

/-- An output goes on from a state that differs in the VDP only, or raises InvalidPort. -/
theorem State.outThen_eq (s : State) (hi lo v : Byte) (k : State → State) :
    (∃ w, s.outThen hi lo v k = .next (k { s with vdp := w }) ∧ s.vdp.PortStep w) ∨
      s.outThen hi lo v k = .next (s.raise (.invalidPort lo)) := by
  rcases s.outThen_cases hi lo v k with ⟨-, e⟩ | ⟨-, e⟩ | ⟨-, -, -, e⟩ | ⟨-, -, -, e⟩
  · exact .inl ⟨_, e, .writeData v⟩
  · exact .inl ⟨_, e, .writeControl v⟩
  · exact .inl ⟨_, e, .none⟩
  · exact .inr e

/-! ### Reads and stores in order (R62, R65, R76) -/

/-- From `m` to `m'` memory has seen the reads and then stores at the addresses of `stores`, each once and in
order. -/
def Accesses (m : Mem) (reads stores : List Word) (m' : Mem) : Prop :=
  ∃ vs, vs.length = stores.length ∧ m' = storeAll (readAll m reads) (stores.zip vs)

theorem readAll_of_isFlat {m : Mem} (h : m.isFlat = true) (reads : List Word) : readAll m reads = m := by
  induction reads with
  | nil => rfl
  | cons a reads ih =>
    rw [readAll, List.foldl_cons, Mem.afterRead_of_isFlat h]
    exact ih

@[simp] theorem isFlat_readAll (m : Mem) (reads : List Word) : (readAll m reads).isFlat = m.isFlat := by
  induction reads generalizing m with
  | nil => rfl
  | cons a reads ih => exact (ih _).trans (m.isFlat_afterRead a)

@[simp] theorem isFlat_storeAll (m : Mem) (stores : List (Word × Byte)) :
    (storeAll m stores).isFlat = m.isFlat := by
  induction stores generalizing m with
  | nil => rfl
  | cons w stores ih => exact (ih _).trans (m.isFlat_write w.1 w.2)

theorem wf_readAll {m : Mem} (h : m.wf = true) (reads : List Word) : (readAll m reads).wf = true := by
  induction reads generalizing m with
  | nil => exact h
  | cons a reads ih => exact ih (Mem.wf_afterRead h a)

theorem wf_storeAll {m : Mem} (h : m.wf = true) (stores : List (Word × Byte)) : (storeAll m stores).wf = true := by
  induction stores generalizing m with
  | nil => exact h
  | cons w stores ih => exact ih (Mem.wf_write h w.1 w.2)

/-- With the default `Mem` a byte that no store names reads as before. -/
theorem read_storeAll_of_notMem {m : Mem} (h : m.isFlat = true) {stores : List (Word × Byte)} {x : Word}
    (hx : ∀ w ∈ stores, x ≠ w.1) : (storeAll m stores).read x = m.read x := by
  induction stores generalizing m with
  | nil => rfl
  | cons w stores ih =>
    calc (storeAll m (w :: stores)).read x
        = (m.write w.1 w.2).read x :=
          ih ((m.isFlat_write w.1 w.2).trans h) fun w' hw' => hx w' (List.mem_cons_of_mem w hw')
      _ = m.read x := by rw [Mem.read_write h, if_neg (hx w List.mem_cons_self)]

section Accesses

variable {m m' : Mem} {reads stores : List Word} (h : Accesses m reads stores m')
include h

theorem Accesses.isFlat : m'.isFlat = m.isFlat := by
  obtain ⟨vs, -, rfl⟩ := h
  simp

theorem Accesses.wf (hm : m.wf = true) : m'.wf = true := by
  obtain ⟨vs, -, rfl⟩ := h
  exact wf_storeAll (wf_readAll hm reads) _

/-- With the default `Mem` every byte that is not stored to reads as before. -/
theorem Accesses.read_of_notMem (hm : m.isFlat = true) {x : Word} (hx : x ∉ stores) : m'.read x = m.read x := by
  obtain ⟨vs, -, rfl⟩ := h
  rw [readAll_of_isFlat hm]
  refine read_storeAll_of_notMem hm fun w hw e => hx ?_
  rw [e]
  exact (List.of_mem_zip hw).1

end Accesses

/-- Reads alone leave the default `Mem` as it is. -/
theorem Accesses.eq_of_no_stores {m m' : Mem} {reads : List Word} (h : Accesses m reads [] m')
    (hm : m.isFlat = true) : m' = m := by
  obtain ⟨vs, -, rfl⟩ := h
  exact readAll_of_isFlat hm reads

/-! ### Memory, over all instructions -/

section

variable {m m' : Mem} {reads : List Word}

theorem Accesses.noStore (h : m' = readAll m reads) : Accesses m reads [] m' := ⟨[], rfl, h⟩

theorem Accesses.oneStore {a : Word} {v : Byte} (h : m' = (readAll m reads).write a v) : Accesses m reads [a] m' :=
  ⟨[v], rfl, h⟩

theorem Accesses.twoStores {a b : Word} {v w : Byte} (h : m' = ((readAll m reads).write a v).write b w) :
    Accesses m reads [a, b] m' :=
  ⟨[v, w], rfl, h⟩

end

@[simp] theorem State.repeatIf_mem (s : State) (i : Instr) (again : Bool) : (s.repeatIf i again).mem = s.mem := by
  cases again <;> rfl

/-- Used with `simp -implicitDefEqProofs`: left to unfolding, the kernel compares the two states field by field and
counts the step 0xFFFF of OUTD up by ones. -/
@[simp] theorem State.outBlock_mem (s : State) (by_ : Word) : (s.outBlock by_).mem = s.mem := by
  simp [State.outBlock, State.blockIoFlags]

/-- An input whose continuation stores one byte at (HL): no store when the port is unregistered. -/
theorem State.inThen_stores (s : State) {hi lo : Byte} {k : Byte → State → State}
    (hk : ∀ v u, ∃ b, (k v u).mem = u.mem.write u.main.hl b) :
    ∃ t, s.inThen hi lo k = .next t ∧
      Accesses s.mem [] (if registered s lo s.params.readPorts then [s.main.hl] else []) t.mem := by
  by_cases h : registered s lo s.params.readPorts = true
  · obtain ⟨v, w, d, e, -⟩ := State.inThen_of_registered h hi k
    obtain ⟨b, hb⟩ := hk v { s with vdp := w, draws := d }
    exact ⟨_, e, by rw [if_pos h]; exact .oneStore hb⟩
  · exact ⟨_, State.inThen_of_not_registered h hi k, by rw [if_neg h]; exact .noStore rfl⟩

/-- An input whose continuation leaves memory. -/
theorem State.inThen_noStore (s : State) {hi lo : Byte} {k : Byte → State → State}
    (hk : ∀ v u, (k v u).mem = u.mem) : ∃ t, s.inThen hi lo k = .next t ∧ Accesses s.mem [] [] t.mem := by
  by_cases h : registered s lo s.params.readPorts = true
  · obtain ⟨v, w, d, e, -⟩ := State.inThen_of_registered h hi k
    exact ⟨_, e, .noStore (hk ..)⟩
  · exact ⟨_, State.inThen_of_not_registered h hi k, .noStore rfl⟩

/-- An output, after the reads that led from `m` to `s`, whose continuation leaves memory. -/
theorem State.outThen_noStore {m : Mem} {reads : List Word} {s : State} (hs : s.mem = readAll m reads)
    {hi lo v : Byte} {k : State → State} (hk : ∀ u, (k u).mem = u.mem) :
    ∃ t, s.outThen hi lo v k = .next t ∧ Accesses m reads [] t.mem := by
  rcases s.outThen_eq hi lo v k with ⟨w, e, -⟩ | e
  · exact ⟨_, e, .noStore ((hk _).trans hs)⟩
  · exact ⟨_, e, .noStore hs⟩

/-- A branch: each side is shown under its own condition. -/
theorem exists_next_ite {c : Prop} [Decidable c] {a b : State} {P : State → Prop} (ha : c → P a) (hb : ¬c → P b) :
    ∃ t, (if c then .next a else .next b : Out) = .next t ∧ P t := by
  by_cases h : c
  · exact ⟨a, if_pos h, ha h⟩
  · exact ⟨b, if_neg h, hb h⟩

/-- Every instruction but EI answers a next state, and memory has seen exactly the reads and stores of its rule: one
store, two stores, a repeated store, a branch, a port operation, or no store. -/
theorem exec_accesses {i : Instr} (hi : i ≠ .ei) (s : State) :
    ∃ t, exec i s = .next t ∧ Accesses s.mem (readsOf s i) (storesTo s i) t.mem := by
  cases i with
  | ei => exact absurd rfl hi
  | ldIndBcA | ldIndDeA | ldi | ldd | ldIndNnA | incIndHl | decIndHl | ldIndHlN | ldIndHlR | rlcIndHl | rrcIndHl
  | rlIndHl | rrIndHl | slaIndHl | sraIndHl | sllIndHl | srlIndHl | resBIndHl | setBIndHl | rrd | rld | incIxd
  | decIxd | ldIxdN | ldIxdR | rlcIxd | rrcIxd | rlIxd | rrIxd | slaIxd | sraIxd | sllIxd | srlIxd | resBIxd
  | setBIxd | incIyd | decIyd | ldIydN | ldIydR | rlcIyd | rrcIyd | rlIyd | rrIyd | slaIyd | sraIyd | sllIyd
  | srlIyd | resBIyd | setBIyd => exact ⟨_, rfl, .oneStore rfl⟩
  | ldIndNnHl | ldIndNnDd | ldIndNnIx | ldIndNnIy | exIndSpHl | exIndSpIx | exIndSpIy | pushQq | callNn | rstP
  | pushIx | pushIy => exact ⟨_, rfl, .twoStores rfl⟩
  | ldir | lddr => exact ⟨_, rfl, .oneStore (State.repeatIf_mem ..)⟩
  | cpir | cpdr => exact ⟨_, rfl, .noStore (State.repeatIf_mem ..)⟩
  | callCcNn cc nn =>
    refine exists_next_ite (fun h => ?_) fun h => ?_ <;>
      change Accesses s.mem [] (if s.main.f.cond cc then [s.sp - 1, s.sp - 2] else []) _
    · rw [if_pos h]
      exact .twoStores rfl
    · rw [if_neg h]
      exact .noStore rfl
  | retCc cc =>
    refine exists_next_ite (fun h => ?_) fun h => ?_ <;>
      change Accesses s.mem (if s.main.f.cond cc then [s.sp, s.sp + 1] else []) [] _
    · rw [if_pos h]
      exact .noStore rfl
    · rw [if_neg h]
      exact .noStore rfl
  | djnzE | jrNzE | jrZE | jrNcE | jrCE | jpCcNn =>
    exact exists_next_ite (fun _ => .noStore rfl) fun _ => .noStore rfl
  | ldDdNn p | ldDdIndNn p | popQq p | incSs p | decSs p => cases p <;> exact ⟨_, rfl, .noStore rfl⟩
  | ini | ind => exact s.inThen_stores fun _ _ => ⟨_, rfl⟩
  | inir | indr => exact s.inThen_stores fun _ _ => ⟨_, State.repeatIf_mem ..⟩
  | inAPortN | inRPortC => exact s.inThen_noStore fun _ _ => rfl
  | outPortNA | outPortCR => exact State.outThen_noStore rfl fun _ => rfl
  | outi | outd | otir | otdr => exact State.outThen_noStore rfl fun _ => by simp -implicitDefEqProofs
  | _ => exact ⟨_, rfl, .noStore rfl⟩

end Sys2Proof.Machine
end

section
/-! PROOF. Memory changes only where the instruction's rule says (R76). -/

namespace Sys2Proof.Machine

open Sys2Proof Sys2Proof.Rules

/-- Settles O22, from the accesses of every instruction and what the default `Mem` makes of them. -/
theorem instructionsStoreOnlyWhereTheirRulesSay : Obligations.InstructionsStoreOnlyWhereTheirRulesSay := by
  intro i s hi
  obtain ⟨t, e, h⟩ := exec_accesses hi s
  have ⟨vs, hlen, hmem⟩ := h
  refine ⟨t, vs, e, hlen, hmem, fun hf => ⟨fun x hx => h.read_of_notMem hf hx, fun hs => ?_⟩⟩
  rw [hs] at h
  exact h.eq_of_no_stores hf

end Sys2Proof.Machine
end

section
/-! SUPPORT. What no instruction reaches but through a port: the pending flags, the VDP, the driver's part of the state
and the parameters. One lemma per operation, then one over all instructions. -/

namespace Sys2Proof.Machine

open Sys2Proof Sys2Proof.Rules

/-- The part of the state that an instruction reaches, if at all, by a port operation only. -/
structure Outside where
  nmiPending : Bool
  intPending : Bool
  vdp : Vdp
  acc : Nat
  inputs : List HostInput
  params : Params
  resetState : ResetState

/-- What `s` holds there. -/
def State.outside (s : State) : Outside :=
  ⟨s.nmiPending, s.intPending, s.vdp, s.acc, s.inputs, s.params, s.resetState⟩

section operations

variable (s : State)

@[simp] theorem State.outside_setPc (v : Word) : (s.setPc v).outside = s.outside := rfl
@[simp] theorem State.outside_setSp (v : Word) : (s.setSp v).outside = s.outside := rfl
@[simp] theorem State.outside_setIx (v : Word) : (s.setIx v).outside = s.outside := rfl
@[simp] theorem State.outside_setIy (v : Word) : (s.setIy v).outside = s.outside := rfl
@[simp] theorem State.outside_setA (v : Byte) : (s.setA v).outside = s.outside := rfl
@[simp] theorem State.outside_setB (v : Byte) : (s.setB v).outside = s.outside := rfl
@[simp] theorem State.outside_setR8 (r : Reg8) (v : Byte) : (s.setR8 r v).outside = s.outside := rfl
@[simp] theorem State.outside_setBc (v : Word) : (s.setBc v).outside = s.outside := rfl
@[simp] theorem State.outside_setDe (v : Word) : (s.setDe v).outside = s.outside := rfl
@[simp] theorem State.outside_setHl (v : Word) : (s.setHl v).outside = s.outside := rfl
@[simp] theorem State.outside_afterRd (a : Word) : (s.afterRd a).outside = s.outside := rfl
@[simp] theorem State.outside_afterIndHl : s.afterIndHl.outside = s.outside := rfl
@[simp] theorem State.outside_wr (a : Word) (v : Byte) : (s.wr a v).outside = s.outside := rfl
@[simp] theorem State.outside_addT (n : Nat) : (s.addT n).outside = s.outside := rfl
@[simp] theorem State.outside_raise (f : Fault) : (s.raise f).outside = s.outside := rfl
@[simp] theorem State.outside_writeFlags (f : Flags) : (s.writeFlags f).outside = s.outside := rfl
@[simp] theorem State.outside_skip (n : Nat) : (s.skip n).outside = s.outside := rfl
@[simp] theorem State.outside_refreshR : s.refreshR.outside = s.outside := rfl
@[simp] theorem State.outside_exchangeAf : s.exchangeAf.outside = s.outside := rfl
@[simp] theorem State.outside_exchangeBanks : s.exchangeBanks.outside = s.outside := rfl

@[simp] theorem State.outside_setPair (p : Pair) (v : Word) : (s.setPair p v).outside = s.outside := by
  cases p <;> rfl

@[simp] theorem State.outside_setStackPair (p : StackPair) (v : Word) :
    (s.setStackPair p v).outside = s.outside := by
  cases p <;> rfl

@[simp] theorem State.outside_repeatIf (i : Instr) (again : Bool) : (s.repeatIf i again).outside = s.outside := by
  cases again <;> rfl

@[simp] theorem State.outside_wr16 (a v : Word) : (s.wr16 a v).outside = s.outside := by simp [State.wr16]
@[simp] theorem State.outside_push16 (v : Word) : (s.push16 v).outside = s.outside := by simp [State.push16]

@[simp] theorem State.outside_afterRd16 (a : Word) : (s.afterRd16 a).outside = s.outside := by
  simp [State.afterRd16]

@[simp] theorem State.outside_drop16 : s.drop16.outside = s.outside := by simp [State.drop16]
@[simp] theorem State.outside_popPc : s.popPc.outside = s.outside := by simp [State.popPc]

@[simp] theorem State.outside_returnFromInterrupt : s.returnFromInterrupt.outside = s.outside :=
  s.outside_popPc

@[simp] theorem State.outside_jumpRelative (e : Byte) : (s.jumpRelative e).outside = s.outside := by
  simp [State.jumpRelative]

@[simp] theorem State.outside_storeAtSp (v : Word) : (s.storeAtSp v).outside = s.outside := by
  simp [State.storeAtSp]

@[simp] theorem State.outside_aluAdd (v : Byte) (c : Bool) : (s.aluAdd v c).outside = s.outside := by
  simp [State.aluAdd]

@[simp] theorem State.outside_aluSub (v : Byte) (c : Bool) : (s.aluSub v c).outside = s.outside := by
  simp [State.aluSub]

@[simp] theorem State.outside_aluAnd (v : Byte) : (s.aluAnd v).outside = s.outside := by simp [State.aluAnd]
@[simp] theorem State.outside_aluXor (v : Byte) : (s.aluXor v).outside = s.outside := by simp [State.aluXor]
@[simp] theorem State.outside_aluOr (v : Byte) : (s.aluOr v).outside = s.outside := by simp [State.aluOr]
@[simp] theorem State.outside_aluCp (v : Byte) : (s.aluCp v).outside = s.outside := by simp [State.aluCp]
@[simp] theorem State.outside_incAt (a : Word) : (s.incAt a).outside = s.outside := by simp [State.incAt]
@[simp] theorem State.outside_decAt (a : Word) : (s.decAt a).outside = s.outside := by simp [State.decAt]

@[simp] theorem State.outside_rotAt (k : RotOp) (a : Word) : (s.rotAt k a).outside = s.outside := by
  simp [State.rotAt]

@[simp] theorem State.outside_rotR (k : RotOp) (r : Reg8) : (s.rotR k r).outside = s.outside := by
  simp [State.rotR]

@[simp] theorem State.outside_rotA (k : RotOp) : (s.rotA k).outside = s.outside := by simp [State.rotA]

@[simp] theorem State.outside_testBit (b : BitVec 3) (v : Byte) : (s.testBit b v).outside = s.outside := by
  simp [State.testBit]

@[simp] theorem State.outside_setBitAt (b : BitVec 3) (a : Word) : (s.setBitAt b a).outside = s.outside := by
  simp [State.setBitAt]

@[simp] theorem State.outside_resBitAt (b : BitVec 3) (a : Word) : (s.resBitAt b a).outside = s.outside := by
  simp [State.resBitAt]

@[simp] theorem State.outside_moveBlock (v : Word) : (s.moveBlock v).outside = s.outside := by
  simp [State.moveBlock]

@[simp] theorem State.outside_compareBlock (v : Word) : (s.compareBlock v).outside = s.outside := by
  simp [State.compareBlock]

@[simp] theorem State.outside_loadIr (v : Byte) : (s.loadIr v).outside = s.outside := by simp [State.loadIr]

@[simp] theorem State.outside_rotateDigitLeft : s.rotateDigitLeft.outside = s.outside := by
  simp [State.rotateDigitLeft]

@[simp] theorem State.outside_rotateDigitRight : s.rotateDigitRight.outside = s.outside := by
  simp [State.rotateDigitRight]

@[simp] theorem State.outside_inBlock (by_ : Word) (v : Byte) : (s.inBlock by_ v).outside = s.outside := by
  simp [State.inBlock, State.blockIoFlags]

@[simp] theorem State.outside_outBlock (by_ : Word) : (s.outBlock by_).outside = s.outside := by
  simp [State.outBlock, State.blockIoFlags]

end operations

/-- An instruction without a port operation leaves all of it. -/
theorem exec_outside_of_no_port {i : Instr} (hi : i ≠ .ei) (s : State) (h : portOf s i = none) :
    ∃ t, exec i s = .next t ∧ t.outside = s.outside := by
  cases i with
  | ei => exact absurd rfl hi
  | ini | ind | inir | indr | inAPortN | inRPortC | outPortNA | outPortCR | outi | outd | otir | otdr => cases h
  | djnzE | jrNzE | jrZE | jrNcE | jrCE | jpCcNn | callCcNn | retCc =>
    refine exists_next_ite (fun _ => ?_) fun _ => ?_ <;> simp
  | halt | di | im0 | im1 | im2 | ldIA | ldRA => exact ⟨_, rfl, rfl⟩
  | _ =>
    refine ⟨_, rfl, ?_⟩
    simp -implicitDefEqProofs

/-- What a port operation leaves outside. -/
def ReachesPort (s t : State) : Prop := ∃ w, s.vdp.PortStep w ∧ t.outside = { s.outside with vdp := w }

theorem State.inThen_reachesPort (s : State) {hi lo : Byte} {k : Byte → State → State}
    (hk : ∀ v u, (k v u).outside = u.outside) : ∃ t, s.inThen hi lo k = .next t ∧ ReachesPort s t := by
  by_cases h : registered s lo s.params.readPorts = true
  · obtain ⟨v, w, d, e, hw⟩ := State.inThen_of_registered h hi k
    exact ⟨_, e, w, hw, hk ..⟩
  · exact ⟨_, State.inThen_of_not_registered h hi k, _, .none, rfl⟩

theorem State.outThen_reachesPort {s u : State} (hu : u.outside = s.outside) {hi lo v : Byte} {k : State → State}
    (hk : ∀ u, (k u).outside = u.outside) : ∃ t, u.outThen hi lo v k = .next t ∧ ReachesPort s t := by
  have hv : u.vdp = s.vdp := congrArg Outside.vdp hu
  rcases u.outThen_eq hi lo v k with ⟨w, e, hw⟩ | e
  · exact ⟨_, e, w, hv ▸ hw, (hk _).trans (congrArg (fun o : Outside => { o with vdp := w }) hu)⟩
  · exact ⟨_, e, _, .none, hu⟩

/-- Every instruction but EI leaves everything outside but the VDP, which it reaches by one port operation at most. -/
theorem exec_reachesPort {i : Instr} (hi : i ≠ .ei) (s : State) : ∃ t, exec i s = .next t ∧ ReachesPort s t := by
  cases h : portOf s i with
  | none =>
    obtain ⟨t, e, ht⟩ := exec_outside_of_no_port hi s h
    exact ⟨t, e, _, .none, ht⟩
  | some =>
    cases i with
    | ini | ind | inir | indr | inAPortN | inRPortC =>
      exact s.inThen_reachesPort fun _ _ => by simp -implicitDefEqProofs
    | outPortNA | outPortCR | outi | outd | otir | otdr =>
      exact State.outThen_reachesPort rfl fun _ => by simp -implicitDefEqProofs
    | _ => cases h

end Sys2Proof.Machine
end

section
/-! PROOF. The invariant (R481, R483, R497, R498): it holds at reset, and every part of a step keeps it and the
parameters of R7. -/

namespace Sys2Proof.Machine

open Sys2Proof Sys2Proof.Rules

/-! ### The VDP -/

theorem Vdp.countersOk_iff (v : Vdp) :
    v.countersOk = true ↔
      v.hcount.toNat < 342 ∧ if v.vjump then 0xD5 ≤ v.vcount.toNat else v.vcount.toNat ≤ 0xDA := by
  unfold Vdp.countersOk
  cases v.vjump <;> simp

theorem Vdp.inv_iff (v : Vdp) :
    v.inv = true ↔
      Vram.wf v.vram = true ∧ Fb.wf v.fb = true ∧ v.status.extractLsb' 0 5 = 0#5 ∧ v.countersOk = true := by
  simp [Vdp.inv, and_assoc]

/-- Status bits 4:0 stay when only bits 7:5 are gained (R483). -/
theorem StatusStep.low_bits {a b : Byte} (h : StatusStep 0xE0#8 a b) : b.extractLsb' 0 5 = a.extractLsb' 0 5 := by
  have hmask : ∀ k < 5, (0xE0#8).getLsbD k = false := by decide
  apply BitVec.eq_of_getLsbD_eq
  intro k hk
  simp only [BitVec.getLsbD_extractLsb', Nat.zero_add, h.getLsbD (hmask k hk)]

/-- A byte inside a mask has its bits there. -/
theorem getLsbD_of_or_eq {m mask : Byte} (h : m ||| mask = mask) {k : Nat} (hk : m.getLsbD k = true) :
    mask.getLsbD k = true := by
  rw [← h, BitVec.getLsbD_or, hk, Bool.true_or]

theorem StatusStep.mono {mask mask' a b : Byte} (h : StatusStep mask a b)
    (hm : ∀ k, mask.getLsbD k = true → mask'.getLsbD k = true) : StatusStep mask' a b :=
  ⟨h.1, fun k hk => (h.2 k hk).imp_right (hm k)⟩

/-- One port operation keeps the VDP's parameters. -/
theorem Vdp.PortStep.screen {v w : Vdp} (h : v.PortStep w) : w.screen = v.screen := by
  cases h with
  | writeData b => rw [Vdp.writeData_eq]
  | writeControl b => rw [Vdp.writeControl_eq]
  | _ => rfl

/-- One port operation keeps the VDP's invariant. -/
theorem Vdp.PortStep.inv {v w : Vdp} (h : v.PortStep w) (hv : v.inv = true) : w.inv = true := by
  obtain ⟨hvram, hfb, hstatus, hcounters⟩ := v.inv_iff.mp hv
  rw [Vdp.inv_iff]
  cases h with
  | none | readData => exact ⟨hvram, hfb, hstatus, hcounters⟩
  | readControl => exact ⟨hvram, hfb, rfl, hcounters⟩
  | writeData b =>
    rw [Vdp.writeData_eq]
    refine ⟨?_, hfb, hstatus, hcounters⟩
    dsimp only
    split
    · exact hvram
    · exact Vram.wf_write hvram ..
  | writeControl b =>
    rw [Vdp.writeControl_eq]
    exact ⟨hvram, hfb, hstatus, hcounters⟩

/-- A scanline changes neither VRAM nor the VDP's parameters nor `hcount`. -/
theorem Vdp.scanline_frame (v : Vdp) (render : Bool) :
    (v.scanline render).vram = v.vram ∧ (v.scanline render).screen = v.screen ∧
      (v.scanline render).hcount = v.hcount := by
  rw [Vdp.scanline_eq, Vdp.drawn, Vdp.renderLine_eq, Vdp.advanceV_eq]
  split
  · split <;> exact ⟨rfl, rfl, rfl⟩
  · exact ⟨rfl, rfl, rfl⟩

/-- A scanline leaves the vertical counter where `AdvanceV` does (R498). -/
theorem Vdp.scanline_vertical (v : Vdp) (render : Bool) :
    (v.scanline render).vcount = v.advanceV.vcount ∧ (v.scanline render).vjump = v.advanceV.vjump := by
  rw [Vdp.scanline_eq, Vdp.drawn, Vdp.renderLine_eq]
  split
  · split <;> exact ⟨rfl, rfl⟩
  · exact ⟨rfl, rfl⟩

/-- A scanline only adds status bits 7:5 (R503, R506). -/
theorem Vdp.scanline_status (v : Vdp) (render : Bool) : StatusStep 0xE0#8 v.status (v.scanline render).status := by
  have ha : v.advanceV.status = v.status := by rw [Vdp.advanceV_eq]
  rw [Vdp.scanline_eq, Vdp.drawn]
  split
  · dsimp only
    split
    · rw [← ha]
      exact (v.advanceV.renderLine_status _).mono fun k => getLsbD_of_or_eq (by decide)
    · rw [ha]
      exact .refl ..
  · dsimp only
    split
    · exact .or _ fun k => getLsbD_of_or_eq (by decide)
    · exact .refl ..

/-- A scanline keeps the framebuffer's canonical form: it draws a visible line or none. -/
theorem Vdp.wf_scanline {v : Vdp} (h : Fb.wf v.fb = true) (render : Bool) : Fb.wf (v.scanline render).fb = true := by
  have ha : Fb.wf v.advanceV.fb = true := by rwa [Vdp.advanceV_eq]
  rw [Vdp.scanline_eq, Vdp.drawn]
  split
  next hline =>
    dsimp only
    split
    · exact Vdp.wf_renderLine ha hline
    · exact ha
  · exact ha

theorem Vdp.scanline_inv {v : Vdp} (hv : v.inv = true) (render : Bool) : (v.scanline render).inv = true := by
  obtain ⟨hvram, hfb, hstatus, hcounters⟩ := v.inv_iff.mp hv
  obtain ⟨hh, hvert⟩ := v.countersOk_iff.mp hcounters
  obtain ⟨evram, -, ehcount⟩ := v.scanline_frame render
  obtain ⟨evcount, evjump⟩ := v.scanline_vertical render
  rw [Vdp.inv_iff, Vdp.countersOk_iff, evram, (v.scanline_status render).low_bits, ehcount, evcount, evjump]
  exact ⟨hvram, Vdp.wf_scanline hfb render, hstatus, hh, v.advanceV_counters hvert⟩

theorem Vdp.scanlines_inv {v : Vdp} (hv : v.inv = true) (render : Bool) (n : Nat) :
    (Vdp.scanlines render n v).inv = true := by
  induction n generalizing v with
  | zero => exact hv
  | succ n ih => exact ih (Vdp.scanline_inv hv render)

theorem Vdp.scanlines_screen (v : Vdp) (render : Bool) (n : Nat) :
    (Vdp.scanlines render n v).screen = v.screen := by
  induction n generalizing v with
  | zero => rfl
  | succ n ih => exact (ih _).trans (v.scanline_frame render).2.1

/-- `Tick` keeps the VDP's invariant: the scanlines do, and it leaves `hcount` below 342 (R497). -/
theorem Vdp.tick_inv {v : Vdp} (hv : v.inv = true) (cycles : Nat) (render : Bool) :
    (v.tick cycles render).inv = true := by
  have hs := Vdp.scanlines_inv hv render ((v.hcount.toNat + cycles) / 342)
  simp only [Vdp.inv_iff, Vdp.countersOk_iff] at hs ⊢
  obtain ⟨hvram, hfb, hstatus, -, hvert⟩ := hs
  refine ⟨hvram, hfb, hstatus, ?_, hvert⟩
  simp only [Vdp.tick, BitVec.toNat_ofNat]
  omega

/-! ### Reset (R540) -/

theorem State.inv_iff (s : State) :
    s.Inv ↔
      s.mem.wf = true ∧ s.vdp.inv = true ∧ s.resetState.vdp.inv = true ∧ s.acc < s.params.tickDen := by
  simp [State.Inv, State.inv, and_assoc]

/-- The invariant right after reset. -/
theorem State.resetWith_inv {p : Params} {r : ResetState} {mem : Mem} (hp : 0 < p.tickDen) (hm : mem.wf = true)
    (hr : r.vdp.inv = true) (screen : Screen) (inputs : List HostInput) (draws : Nat) :
    (State.resetWith p screen r mem inputs draws).Inv :=
  (State.inv_iff _).mpr ⟨hm, hr, hr, hp⟩

/-- The tables' values meet the VDP's invariant, whatever canonical VRAM and framebuffer stand beside them. -/
theorem ResetState.ofTable_inv {u : Unspecified} (hvram : Vram.wf u.vram = true) (hfb : Fb.wf u.fb = true) :
    (ResetState.ofTable u).vdp.inv = true :=
  (Vdp.inv_iff _).mpr ⟨hvram, hfb, rfl, rfl⟩

/-- Settles O16: every line by definition, the invariant from its parts. -/
theorem resetTakesResetStateAndMeetsTheInvariant : Obligations.ResetTakesResetStateAndMeetsTheInvariant := by
  refine ⟨fun p screen r mem inputs draws => ?_, fun u hvram hfb => ResetState.ofTable_inv hvram hfb, ?_⟩
  · exact ⟨rfl, rfl, rfl, rfl, rfl, rfl, rfl, rfl, rfl, rfl, rfl, rfl, rfl, rfl, rfl, rfl, rfl, rfl, rfl, rfl, rfl,
      fun hp hm hr => State.resetWith_inv hp hm hr screen inputs draws⟩
  · exact State.resetWith_inv (by decide) rfl (ResetState.ofTable_inv rfl rfl) ..

/-! ### The parts of a step -/

/-- From `s` to `t` the invariant and every parameter of R7 are kept. -/
structure State.Keeps (s t : State) : Prop where
  params : t.params = s.params
  resetState : t.resetState = s.resetState
  screen : t.vdp.screen = s.vdp.screen
  isFlat : t.mem.isFlat = s.mem.isFlat
  inv : s.Inv → t.Inv

theorem State.Keeps.trans {s t u : State} (h : s.Keeps t) (h' : t.Keeps u) : s.Keeps u where
  params := h'.params.trans h.params
  resetState := h'.resetState.trans h.resetState
  screen := h'.screen.trans h.screen
  isFlat := h'.isFlat.trans h.isFlat
  inv := h'.inv ∘ h.inv

/-- What a part of a step has to keep when it leaves the parameters and `acc`. -/
theorem State.Keeps.of_parts {s t : State} (params : t.params = s.params) (resetState : t.resetState = s.resetState)
    (acc : t.acc = s.acc) (screen : t.vdp.screen = s.vdp.screen) (vdp : s.vdp.inv = true → t.vdp.inv = true)
    (isFlat : t.mem.isFlat = s.mem.isFlat) (wf : s.mem.wf = true → t.mem.wf = true) : s.Keeps t where
  params := params
  resetState := resetState
  screen := screen
  isFlat := isFlat
  inv hs := by
    obtain ⟨hmem, hvdp, hreset, hacc⟩ := s.inv_iff.mp hs
    rw [State.inv_iff, params, resetState, acc]
    exact ⟨wf hmem, vdp hvdp, hreset, hacc⟩

theorem State.Keeps.ite {s t u : State} {c : Prop} [Decidable c] (h : s.Keeps t) (h' : t.Keeps u) :
    s.Keeps (if c then u else t) := by
  split
  · exact h.trans h'
  · exact h

/-- A part that leaves memory, the VDP but for the interrupt request, the parameters and `acc`. -/
theorem State.Keeps.of_irq {s t : State} {irq : Bool} (params : t.params = s.params)
    (resetState : t.resetState = s.resetState) (acc : t.acc = s.acc)
    (vdp : t.vdp = { s.vdp with irqPending := irq }) (mem : t.mem = s.mem) : s.Keeps t :=
  .of_parts params resetState acc (by rw [vdp]) (by rw [vdp]; exact id) (by rw [mem]) (by rw [mem]; exact id)

theorem State.hostReset_keeps (s : State) (image : List Host.Cell) : s.Keeps (s.hostReset image) where
  params := rfl
  resetState := rfl
  screen := rfl
  isFlat := s.mem.isFlat_load image
  inv hs := by
    obtain ⟨-, -, hreset, hacc⟩ := s.inv_iff.mp hs
    exact State.resetWith_inv (Nat.zero_lt_of_lt hacc) (s.mem.wf_load image) hreset ..

/-- The host's input keeps them: a reset, and fields of no concern (R466). -/
theorem State.applyInput_keeps (s : State) (input : HostInput) : s.Keeps (s.applyInput input) := by
  have hreset : s.Keeps
      (match input.reset with
        | some image => s.hostReset image
        | none => s) := by
    cases input.reset with
    | none => exact .of_irq rfl rfl rfl rfl rfl
    | some image => exact s.hostReset_keeps image
  unfold State.applyInput
  refine .ite (.ite (.ite hreset ?_) ?_) ?_ <;> exact .of_irq rfl rfl rfl rfl rfl

theorem State.afterInput_keeps (s : State) : s.Keeps s.afterInput :=
  .trans (t := { s with inputs := s.inputs.tail }) (.of_irq rfl rfl rfl rfl rfl) (State.applyInput_keeps _ _)

theorem State.feedInterrupt_keeps (s : State) : s.Keeps s.feedInterrupt := .of_irq rfl rfl rfl rfl rfl

theorem State.skip_keeps (s : State) (n : Nat) : s.Keeps (s.skip n) :=
  .of_parts rfl rfl rfl rfl id (Mem.isFlat_afterFetches ..) (State.wf_skip · n)

theorem State.push16_keeps (s : State) (v : Word) : s.Keeps (s.push16 v) :=
  .of_parts rfl rfl rfl rfl id (by simp [State.push16]) (State.wf_push16 · v)

theorem State.enterInterrupt_keeps (s : State) (vector : Word) : s.Keeps (s.enterInterrupt vector) :=
  (s.push16_keeps s.pc).trans (.of_irq rfl rfl rfl rfl rfl)

theorem State.takeNmi_keeps (s : State) : s.Keeps s.takeNmi :=
  (s.enterInterrupt_keeps 0x0066#16).trans (.of_irq rfl rfl rfl rfl rfl)

theorem State.takeInt_keeps (s : State) : s.Keeps s.takeInt :=
  (s.enterInterrupt_keeps 0x0038#16).trans (.of_irq rfl rfl rfl rfl rfl)

theorem State.addT_keeps (s : State) (n : Nat) : s.Keeps (s.addT n) := .of_irq rfl rfl rfl rfl rfl

theorem State.refreshR_keeps (s : State) : s.Keeps s.refreshR := .of_irq rfl rfl rfl rfl rfl

theorem State.enable_keeps (s : State) : s.Keeps { s with iff1 := true, iff2 := true } :=
  .of_irq rfl rfl rfl rfl rfl

/-- Every instruction but EI: memory sees reads and stores, the VDP one port operation at most. -/
theorem exec_keeps {i : Instr} {s t : State} (hi : i ≠ .ei) (h : exec i s = .next t) : s.Keeps t := by
  obtain ⟨t', e, hmem⟩ := exec_accesses hi s
  obtain ⟨t'', e', w, hw, hout⟩ := exec_reachesPort hi s
  obtain rfl : t' = t := by rw [h] at e; injection e with e; exact e.symm
  obtain rfl : t'' = t' := by rw [h] at e'; injection e' with e'; exact e'.symm
  simp only [State.outside, Outside.mk.injEq] at hout
  obtain ⟨-, -, hvdp, hacc, -, hparams, hreset⟩ := hout
  refine .of_parts hparams hreset hacc ?_ (fun hv => ?_) hmem.isFlat hmem.wf
  · rw [hvdp, hw.screen]
  · rw [hvdp]
    exact hw.inv hv

/-- Every step of the CPU, EI's nested steps included. -/
theorem cpuStep_keeps {s t : State} (h : cpuStep s = .next t) : s.Keeps t := by
  rw [cpuStep_eq] at h
  refine cpuStepFuel_induction (P := State.Keeps) ?nmi ?int ?idle ?instr ?ei _ s t h
  case nmi => exact fun s _ => s.takeNmi_keeps.trans (State.refreshR_keeps _)
  case int => exact fun s _ _ => s.takeInt_keeps.trans (State.refreshR_keeps _)
  case idle => exact fun s _ _ _ => (s.addT_keeps 4).trans (State.refreshR_keeps _)
  case instr =>
    exact fun s t _ _ _ hi ht => ((s.skip_keeps _).trans (exec_keeps hi ht)).trans t.refreshR_keeps
  case ei =>
    intro s u _ _ _ _ hu
    have hnested : s.Keeps u := ((s.skip_keeps 1).trans (State.addT_keeps _ _)).trans hu
    exact ⟨fun _ => hnested.trans u.refreshR_keeps,
      fun _ => (hnested.trans u.enable_keeps).trans (State.refreshR_keeps _)⟩

/-- The driver's tick: `Tick` keeps the VDP's invariant, and `acc` is a remainder (R467). -/
theorem State.driveVdp_keeps (before : Nat) (render : Bool) (s : State) : s.Keeps (s.driveVdp before render) := by
  unfold State.driveVdp
  split
  · exact .of_irq rfl rfl rfl rfl rfl
  · exact
      { params := rfl
        resetState := rfl
        screen := Vdp.scanlines_screen ..
        isFlat := rfl
        inv := fun hs => by
          obtain ⟨hmem, hvdp, hreset, hacc⟩ := s.inv_iff.mp hs
          exact (State.inv_iff _).mpr
            ⟨hmem, Vdp.tick_inv hvdp .., hreset, Nat.mod_lt _ (Nat.zero_lt_of_lt hacc)⟩ }

/-- One turn of the driver. -/
theorem step_keeps {s t : State} (h : step s = .next t) : s.Keeps t := by
  unfold step driverTurn at h
  dsimp only at h
  split at h
  · cases h
  · obtain ⟨u, hu, rfl⟩ := Out.mapNext_eq_next.mp h
    exact ((s.afterInput_keeps.trans (State.feedInterrupt_keeps _)).trans (cpuStep_keeps hu)).trans
      (State.driveVdp_keeps ..)

/-- Settles O17, from what one turn of the driver keeps. -/
theorem everyStepKeepsTheInvariant : Obligations.EveryStepKeepsTheInvariant :=
  ⟨fun _ _ hs h => (step_keeps h).inv hs, fun _ _ h =>
    have hk := step_keeps h
    ⟨hk.params, hk.resetState, hk.screen, hk.isFlat⟩⟩

end Sys2Proof.Machine
end

section
/-! PROOF. The stack (R13): pushes, pops, and a pop after a push. -/

namespace Sys2Proof.Machine

open Sys2Proof Sys2Proof.Rules

/-! ### Pushes and pops (R13, R174 to R179) -/

/-- A push stores the high byte at SP-1 and the low byte at SP-2, also as later reads see it with the default
`Mem`. -/
theorem State.push16_pushedBytes (s : State) (v : Word) : PushedBytes s (s.push16 v) v := by
  refine ⟨fun hf => ⟨?_, ?_, fun x h2 h1 => ?_⟩, rfl⟩
  · rw [State.rd_push16 hf, if_pos rfl]
  · rw [State.rd_push16 hf, if_neg (Word.sub_one_ne_sub_two s.sp), if_pos rfl]
  · rw [State.rd_push16 hf, if_neg h2, if_neg h1]

/-- A push and its T-states: nothing else changes. -/
theorem State.push16_addT_pushes (s : State) (v : Word) (n : Nat) :
    Pushes s ((s.push16 v).addT n) v s.pc n :=
  ⟨s.push16_pushedBytes v, rfl⟩

/-- A pop into a stack pair: the pair holds the word popped. -/
theorem State.stackPair_pop (s : State) (q : StackPair) (n : Nat) :
    ((s.drop16.setStackPair q s.popped).addT n).stackPair q = s.popped :=
  (s.drop16.stackPair_setStackPair q q s.popped).trans (if_pos rfl)

/-- It leaves the other stack pairs. -/
theorem State.stackPair_pop_other (s : State) {q q' : StackPair} (h : q' ≠ q) (n : Nat) :
    ((s.drop16.setStackPair q s.popped).addT n).stackPair q' = s.stackPair q' :=
  (s.drop16.stackPair_setStackPair q q' s.popped).trans (if_neg h)

/-- Outside the main bank it only reads, moves SP and takes its T-states. -/
theorem State.pop_eq (s : State) (q : StackPair) (n : Nat) :
    (s.drop16.setStackPair q s.popped).addT n =
      { s.afterRd16 s.sp with
        main := ((s.drop16.setStackPair q s.popped).addT n).main
        sp := s.sp + 2
        tStates := s.tStates + n } := by
  cases q <;> rfl

/-- Settles O28, from what a push and a pop leave. -/
theorem stackPushesAndPops : Obligations.StackPushesAndPops := by
  intro s
  refine ⟨fun qq => ⟨_, rfl, ?_⟩, ⟨_, rfl, ?_⟩, ⟨_, rfl, ?_⟩, fun qq => ⟨_, rfl, ?_, ?_, ?_⟩, rfl, rfl⟩
  · exact s.push16_addT_pushes ..
  · exact s.push16_addT_pushes ..
  · exact s.push16_addT_pushes ..
  · exact s.stackPair_pop ..
  · exact fun q hq => s.stackPair_pop_other hq _
  · exact s.pop_eq ..

/-- Settles O29: the word popped is the word pushed, and SP goes down by two and up by two. -/
theorem popAfterPushGivesTheWordBack : Obligations.PopAfterPushGivesTheWordBack := by
  intro s q q' hf
  have hpop : ((s.push16 (s.stackPair q)).addT (s.cost (.pushQq q))).popped = s.stackPair q :=
    State.popped_of_push hf rfl rfl
  have hsp : s.sp - 2 + 2 = s.sp := BitVec.sub_add_cancel s.sp 2
  refine ⟨_, _, rfl, rfl, ?_, ?_, _, rfl, ?_, ?_⟩
  · exact (State.stackPair_pop ..).trans hpop
  · rw [State.pop_eq]
    exact hsp
  · exact hpop
  · exact hsp

end Sys2Proof.Machine
end

section
/-! PROOF. Conditions (R16), and the 8-bit adders and logic on A in every operand form (R17, R18). -/

namespace Sys2Proof.Machine

open Sys2Proof Sys2Proof.Rules

/-- Settles O6: each code names its condition, and each condition is its flag. -/
theorem conditionsTestTheirFlags : Obligations.ConditionsTestTheirFlags := by
  refine ⟨fun f => ?_, rfl, rfl, rfl, rfl, rfl, rfl, rfl, rfl⟩
  simp [Cond.ofCode, Flags.cond]

/-! ### The flag rules of the obligations are those of the model -/

theorem num_eq_bit (c : Bool) : num c = bit c := rfl

theorem parity_eq_evenParity (v : Byte) : parity v = evenParity v := by
  revert v
  decide

/-- Two bits compared by `==` and `!=`, as decisions. -/
theorem beq_and_bne_eq_decide (x y z : Bool) :
    ((x == y) && (z != x)) = (decide (x = y) && decide (z ≠ x)) := by
  cases x <;> cases y <;> cases z <;> rfl

theorem bne_and_bne_eq_decide (x y z : Bool) :
    ((x != y) && (z != x)) = (decide (x ≠ y) && decide (z ≠ x)) := by
  cases x <;> cases y <;> cases z <;> rfl

theorem isAdd8_add8 (f : Flags) (a b : Byte) (c : Bool) : IsAdd8 a b c (add8 a b c) (add8Flags f a b c) := by
  refine ⟨add8_toNat a b c, msb_byte _, beq_zero_byte _, rfl, ?_, rfl, rfl⟩
  simp only [add8Flags, msb_byte, beq_and_bne_eq_decide]

theorem isSub8_sub8 (f : Flags) (a b : Byte) (c : Bool) : IsSub8 a b c (sub8 a b c) (sub8Flags f a b c) := by
  refine ⟨sub8_toNat a b c, msb_byte _, beq_zero_byte _, ?_, ?_, rfl, ?_⟩
  · exact decide_eq_decide.mpr (by rw [num_eq_bit]; omega)
  · simp only [sub8Flags, msb_byte, bne_and_bne_eq_decide]
  · exact decide_eq_decide.mpr (by rw [num_eq_bit]; omega)

theorem isLogic8_logic8 (f : Flags) (r : Byte) (h : Bool) : IsLogic8 r h (logic8Flags f r h) :=
  ⟨msb_byte r, beq_zero_byte r, rfl, parity_eq_evenParity r, rfl, rfl⟩

/-! ### The ALU operations on A -/

/-- `aluAdd` writes A and F, F as `add8` says, and nothing else. -/
theorem State.aluAdd_spec (s : State) (v : Byte) (c : Bool) (n : Nat) :
    OnlyAF s ((s.aluAdd v c).addT n) n ∧
      IsAdd8 s.main.a v c ((s.aluAdd v c).addT n).main.a ((s.aluAdd v c).addT n).main.f :=
  ⟨rfl, isAdd8_add8 s.main.f s.main.a v c⟩

theorem State.aluSub_spec (s : State) (v : Byte) (c : Bool) (n : Nat) :
    OnlyAF s ((s.aluSub v c).addT n) n ∧
      IsSub8 s.main.a v c ((s.aluSub v c).addT n).main.a ((s.aluSub v c).addT n).main.f :=
  ⟨rfl, isSub8_sub8 s.main.f s.main.a v c⟩

theorem State.aluCp_spec (s : State) (v : Byte) (n : Nat) :
    OnlyF s ((s.aluCp v).addT n) n ∧ ∃ r, IsSub8 s.main.a v false r ((s.aluCp v).addT n).main.f :=
  ⟨rfl, _, isSub8_sub8 s.main.f s.main.a v false⟩

theorem State.aluAnd_spec (s : State) (v : Byte) (n : Nat) :
    OnlyAF s ((s.aluAnd v).addT n) n ∧
      IsLogic8 ((s.aluAnd v).addT n).main.a true ((s.aluAnd v).addT n).main.f ∧
      ∀ k, ((s.aluAnd v).addT n).main.a.getLsbD k = (s.main.a.getLsbD k && v.getLsbD k) :=
  ⟨rfl, isLogic8_logic8 s.main.f (s.main.a &&& v) true, fun _ => BitVec.getLsbD_and⟩

theorem State.aluXor_spec (s : State) (v : Byte) (n : Nat) :
    OnlyAF s ((s.aluXor v).addT n) n ∧
      IsLogic8 ((s.aluXor v).addT n).main.a false ((s.aluXor v).addT n).main.f ∧
      ∀ k, ((s.aluXor v).addT n).main.a.getLsbD k = (s.main.a.getLsbD k != v.getLsbD k) :=
  ⟨rfl, isLogic8_logic8 s.main.f (s.main.a ^^^ v) false, fun _ => BitVec.getLsbD_xor⟩

theorem State.aluOr_spec (s : State) (v : Byte) (n : Nat) :
    OnlyAF s ((s.aluOr v).addT n) n ∧
      IsLogic8 ((s.aluOr v).addT n).main.a false ((s.aluOr v).addT n).main.f ∧
      ∀ k, ((s.aluOr v).addT n).main.a.getLsbD k = (s.main.a.getLsbD k || v.getLsbD k) :=
  ⟨rfl, isLogic8_logic8 s.main.f (s.main.a ||| v) false, fun _ => BitVec.getLsbD_or⟩

/-! ### The five operand forms -/

/-- One operation `op` on A and an operand behind all five forms: what holds of `op` holds of each form. That each
form's meaning is `op` on its operand is by definition. -/
theorem forEachOperand_of_op {r : Reg8 → Instr} {n : Byte → Instr} {hl : Instr} {ix iy : Byte → Instr}
    {P : State → State → Byte → Nat → Prop} (op : State → Byte → State)
    (hP : ∀ s v k, P s ((op s v).addT k) v k)
    (hr : ∀ s q, exec (r q) s = .next ((op s (s.r8 q)).addT (s.cost (r q))) := by intros; rfl)
    (hn : ∀ s v, exec (n v) s = .next ((op s v).addT (s.cost (n v))) := by intros; rfl)
    (hhl : ∀ s, exec hl s = .next ((op (s.afterRd s.main.hl) (s.rd s.main.hl)).addT (s.cost hl)) := by
      intros; rfl)
    (hix : ∀ s d, exec (ix d) s = .next ((op (s.afterRd (s.ixd d)) (s.rd (s.ixd d))).addT (s.cost (ix d))) := by
      intros; rfl)
    (hiy : ∀ s d, exec (iy d) s = .next ((op (s.afterRd (s.iyd d)) (s.rd (s.iyd d))).addT (s.cost (iy d))) := by
      intros; rfl) : ForEachOperand r n hl ix iy P :=
  fun s =>
    ⟨fun q => ⟨_, hr s q, hP ..⟩, fun v => ⟨_, hn s v, hP ..⟩, ⟨_, hhl s, hP ..⟩, fun d => ⟨_, hix s d, hP ..⟩,
      fun d => ⟨_, hiy s d, hP ..⟩⟩

/-- Settles O33: one adder or subtracter behind each instruction's five forms, and NEG. -/
theorem addersMeetAdd8AndSub8 : Obligations.AddersMeetAdd8AndSub8 :=
  ⟨forEachOperand_of_op (fun s v => s.aluAdd v false) fun s v n => s.aluAdd_spec v false n,
    forEachOperand_of_op (fun s v => s.aluAdd v s.main.f.c) fun s v n => s.aluAdd_spec v s.main.f.c n,
    forEachOperand_of_op (fun s v => s.aluSub v false) fun s v n => s.aluSub_spec v false n,
    forEachOperand_of_op (fun s v => s.aluSub v s.main.f.c) fun s v n => s.aluSub_spec v s.main.f.c n,
    forEachOperand_of_op State.aluCp State.aluCp_spec,
    fun s => ⟨_, rfl, rfl, isSub8_sub8 s.main.f 0 s.main.a false⟩⟩

/-- Settles O34: one logical operation behind each instruction's five forms. -/
theorem logicMeetsLogic8 : Obligations.LogicMeetsLogic8 :=
  ⟨forEachOperand_of_op State.aluAnd State.aluAnd_spec, forEachOperand_of_op State.aluXor State.aluXor_spec,
    forEachOperand_of_op State.aluOr State.aluOr_spec⟩

/-! ### Subtraction after addition (S7, C4) -/

/-- In plain arithmetic: subtracting what was added gives the byte back, with the addition's carries as borrows. -/
theorem isSub8_undoes_isAdd8 {a b r r' : Byte} {f f' : Flags} (h : IsAdd8 a b false r f) (h' : IsSub8 r b false r' f') :
    r' = a ∧ f'.c = f.c ∧ f'.h = f.h ∧ f'.n = true ∧ f'.z = decide (a.toNat = 0) ∧ f'.s = a.getLsbD 7 := by
  obtain ⟨hr, -, -, hh, -, -, hc⟩ := h
  obtain ⟨hr', hs', hz', hh', -, hn', hc'⟩ := h'
  simp only [num, Bool.false_eq_true, if_false] at hr hr' hh hh' hc hc'
  have ha := a.isLt
  have hb := b.isLt
  have e : r' = a := BitVec.eq_of_toNat_eq (by omega)
  subst e
  refine ⟨rfl, ?_, ?_, hn', hz', hs'⟩
  · rw [hc', hc]
    exact decide_eq_decide.mpr (by omega)
  · rw [hh', hh]
    exact decide_eq_decide.mpr (by omega)

/-- Settles O37, from the adder's and the subtracter's arithmetic. -/
theorem subtractUndoesAdd : Obligations.SubtractUndoesAdd := by
  intro s n
  obtain ⟨hadd, -, hsub, -⟩ := addersMeetAdd8AndSub8
  obtain ⟨-, haddN, -⟩ := hadd s
  obtain ⟨t, et, -, ht⟩ := haddN n
  obtain ⟨-, hsubN, -⟩ := hsub t
  obtain ⟨u, eu, -, hu⟩ := hsubN n
  exact ⟨t, u, et, eu, isSub8_undoes_isAdd8 ht hu⟩

/-! ### P/V and the signed value (R17, R29) -/

section signed

variable {w : Nat} (a b r : BitVec (w + 1)) (c : Bool)

/-- The sign bit halves the range. -/
theorem msb_eq_decide_half (x : BitVec (w + 1)) : x.msb = decide (2 ^ w ≤ x.toNat) := x.msb_eq_decide

/-- A signed value is the unsigned one, less a whole turn when the sign bit is set. -/
theorem toInt_eq_half (x : BitVec (w + 1)) :
    x.toInt = if 2 ^ w ≤ x.toNat then (x.toNat : Int) - (2 * 2 ^ w : Nat) else x.toNat := by
  simp [BitVec.toInt_eq_msb_cond, msb_eq_decide_half, Nat.pow_succ, Nat.mul_comm]

theorem toNat_lt_half (x : BitVec (w + 1)) : x.toNat < 2 * 2 ^ w := by
  have h := x.isLt
  rwa [Nat.pow_succ, Nat.mul_comm] at h

/-- Of a sum with carry: equal signs in and another sign out, exactly when the signed sum does not fit. -/
theorem add_overflow_iff
    (hr : r.toNat = a.toNat + b.toNat + bit c ∨ r.toNat + 2 * 2 ^ w = a.toNat + b.toNat + bit c) :
    ((a.msb == b.msb) && (r.msb != a.msb)) = true ↔
      a.toInt + b.toInt + bit c < -(2 ^ w : Nat) ∨ (2 ^ w : Nat) - 1 < a.toInt + b.toInt + bit c := by
  have hc := bit_le_one c
  have ha := toNat_lt_half a
  have hb := toNat_lt_half b
  have hr' := toNat_lt_half r
  simp only [msb_eq_decide_half, toInt_eq_half, Bool.and_eq_true, beq_iff_eq, bne_iff_ne, ne_eq,
    decide_eq_decide]
  generalize 2 ^ w = half at *
  omega

/-- Of a difference with borrow: unequal signs in and another sign out, exactly when the signed difference does not
fit. -/
theorem sub_overflow_iff
    (hr : (r.toNat : Int) = a.toNat - b.toNat - bit c ∨
      (r.toNat : Int) = a.toNat - b.toNat - bit c + (2 * 2 ^ w : Nat)) :
    ((a.msb != b.msb) && (r.msb != a.msb)) = true ↔
      a.toInt - b.toInt - bit c < -(2 ^ w : Nat) ∨ (2 ^ w : Nat) - 1 < a.toInt - b.toInt - bit c := by
  have hc := bit_le_one c
  have ha := toNat_lt_half a
  have hb := toNat_lt_half b
  have hr' := toNat_lt_half r
  simp only [msb_eq_decide_half, toInt_eq_half, Bool.and_eq_true, bne_iff_ne, ne_eq, decide_eq_decide]
  generalize 2 ^ w = half at *
  omega

end signed

theorem add8Flags_p_iff (f : Flags) (a b : Byte) (c : Bool) :
    (add8Flags f a b c).p = true ↔ a.toInt + b.toInt + num c < -128 ∨ 127 < a.toInt + b.toInt + num c := by
  have hc := bit_le_one c
  have hr := add8_toNat a b c
  exact add_overflow_iff (w := 7) a b (add8 a b c) c (by omega)

theorem sub8Flags_p_iff (f : Flags) (a b : Byte) (c : Bool) :
    (sub8Flags f a b c).p = true ↔ a.toInt - b.toInt - num c < -128 ∨ 127 < a.toInt - b.toInt - num c := by
  have hc := bit_le_one c
  have hr := sub8_toNat a b c
  exact sub_overflow_iff (w := 7) a b (sub8 a b c) c (by omega)

theorem adc16Flags_p_iff (f : Flags) (a b : Word) (c : Bool) :
    (adc16Flags f a b c).p = true ↔ a.toInt + b.toInt + num c < -32768 ∨ 32767 < a.toInt + b.toInt + num c := by
  have hc := bit_le_one c
  have hr := add16_toNat a b c
  exact add_overflow_iff (w := 15) a b (add16 a b c) c (by omega)

theorem sbc16Flags_p_iff (f : Flags) (a b : Word) (c : Bool) :
    (sbc16Flags f a b c).p = true ↔ a.toInt - b.toInt - num c < -32768 ∨ 32767 < a.toInt - b.toInt - num c := by
  have hc := bit_le_one c
  have hr := sub16_toNat a b c
  exact sub_overflow_iff (w := 15) a b (sub16 a b c) c (by omega)

/-- 0x7F is the one byte whose signed successor does not fit. -/
theorem inc8Flags_p_iff (f : Flags) (v : Byte) : (inc8Flags f v).p = true ↔ 127 < v.toInt + 1 := by
  have h : (inc8Flags f v).p = (v == 0x7F#8) := rfl
  have hv := BitVec.toInt_lt (x := v)
  rw [h, beq_iff_eq, ← BitVec.toInt_inj, show (0x7F#8).toInt = 127 from rfl]
  omega

/-- 0x80 is the one byte whose signed predecessor does not fit. -/
theorem dec8Flags_p_iff (f : Flags) (v : Byte) : (dec8Flags f v).p = true ↔ v.toInt - 1 < -128 := by
  have h : (dec8Flags f v).p = (v == 0x80#8) := rfl
  have hv := BitVec.le_toInt (x := v)
  rw [h, beq_iff_eq, ← BitVec.toInt_inj, show (0x80#8).toInt = -128 from rfl]
  omega

/-- Settles O36: each instruction leaves the P/V of its adder. -/
theorem parityOverflowIsSignedOverflow : Obligations.ParityOverflowIsSignedOverflow := fun s =>
  ⟨fun n => ⟨_, rfl, add8Flags_p_iff s.main.f s.main.a n s.main.f.c⟩,
    fun n => ⟨_, rfl, sub8Flags_p_iff s.main.f s.main.a n s.main.f.c⟩,
    fun r => ⟨_, rfl, inc8Flags_p_iff s.main.f (s.r8 r)⟩,
    fun r => ⟨_, rfl, dec8Flags_p_iff s.main.f (s.r8 r)⟩,
    fun ss => ⟨_, rfl, adc16Flags_p_iff s.main.f s.main.hl (s.pair ss) s.main.f.c⟩,
    fun ss => ⟨_, rfl, sbc16Flags_p_iff s.main.f s.main.hl (s.pair ss) s.main.f.c⟩⟩

end Sys2Proof.Machine
end

section
/-! SUPPORT. What each instruction leaves among the registers and the control state (10_state.md): one lemma per
operation for a place it does not write, then one over all instructions. -/

namespace Sys2Proof.Rules

open Sys2Proof Sys2Proof.Machine

/-! ### Places that an operation does not write -/

theorem Place.same_refl (p : Place) (s : State) : p.same s s := by cases p <;> rfl

section places

variable {p : Place} {s : State} (t : State)

@[simp] theorem Place.same_setPc (h : p ≠ .pc) (v : Word) : p.same s (t.setPc v) ↔ p.same s t := by
  cases p with
  | pc => exact absurd rfl h
  | _ => rfl

@[simp] theorem Place.same_setSp (h : p ≠ .sp) (v : Word) : p.same s (t.setSp v) ↔ p.same s t := by
  cases p with
  | sp => exact absurd rfl h
  | _ => rfl

@[simp] theorem Place.same_setIx (h : p ≠ .ix) (v : Word) : p.same s (t.setIx v) ↔ p.same s t := by
  cases p with
  | ix => exact absurd rfl h
  | _ => rfl

@[simp] theorem Place.same_setIy (h : p ≠ .iy) (v : Word) : p.same s (t.setIy v) ↔ p.same s t := by
  cases p with
  | iy => exact absurd rfl h
  | _ => rfl

@[simp] theorem Place.same_writeFlags (h : p ≠ .f) (f : Flags) : p.same s (t.writeFlags f) ↔ p.same s t := by
  cases p with
  | f => exact absurd rfl h
  | _ => rfl

theorem Place.same_ofReg (q : Reg8) : (ofReg q).same s t ↔ t.r8 q = s.r8 q := by cases q <;> rfl

@[simp] theorem Place.same_setR8 {r : Reg8} (h : p ≠ ofReg r) (v : Byte) :
    p.same s (t.setR8 r v) ↔ p.same s t := by
  have hreg (q : Reg8) (hq : ofReg q ≠ ofReg r) : (ofReg q).same s (t.setR8 r v) ↔ (ofReg q).same s t := by
    have hne : q ≠ r := fun e => hq (congrArg ofReg e)
    rw [Place.same_ofReg, Place.same_ofReg, State.r8_setR8, if_neg hne]
  cases p with
  | a => exact hreg .a h
  | b => exact hreg .b h
  | c => exact hreg .c h
  | d => exact hreg .d h
  | e => exact hreg .e h
  | h => exact hreg .h h
  | l => exact hreg .l h
  | f => cases r <;> rfl
  | _ => rfl

@[simp] theorem Place.same_setA (h : p ≠ .a) (v : Byte) : p.same s (t.setA v) ↔ p.same s t :=
  Place.same_setR8 (r := .a) t h v

@[simp] theorem Place.same_setB (h : p ≠ .b) (v : Byte) : p.same s (t.setB v) ↔ p.same s t :=
  Place.same_setR8 (r := .b) t h v

@[simp] theorem Place.same_setBc (hb : p ≠ .b) (hc : p ≠ .c) (v : Word) : p.same s (t.setBc v) ↔ p.same s t :=
  (Place.same_setR8 (r := .c) (t.setR8 .b (hiByte v)) hc (loByte v)).trans (Place.same_setR8 (r := .b) t hb _)

@[simp] theorem Place.same_setDe (hd : p ≠ .d) (he : p ≠ .e) (v : Word) : p.same s (t.setDe v) ↔ p.same s t :=
  (Place.same_setR8 (r := .e) (t.setR8 .d (hiByte v)) he (loByte v)).trans (Place.same_setR8 (r := .d) t hd _)

@[simp] theorem Place.same_setHl (hh : p ≠ .h) (hl : p ≠ .l) (v : Word) : p.same s (t.setHl v) ↔ p.same s t :=
  (Place.same_setR8 (r := .l) (t.setR8 .h (hiByte v)) hl (loByte v)).trans (Place.same_setR8 (r := .h) t hh _)

@[simp] theorem Place.same_setPair {q : Pair} (h : p ∉ ofPair q) (v : Word) :
    p.same s (t.setPair q v) ↔ p.same s t := by
  cases q <;> simp only [ofPair, List.mem_cons, List.not_mem_nil, or_false, not_or] at h
  case bc => exact Place.same_setBc t h.1 h.2 v
  case de => exact Place.same_setDe t h.1 h.2 v
  case hl => exact Place.same_setHl t h.1 h.2 v
  case sp => exact Place.same_setSp t h v

@[simp] theorem Place.same_setStackPair {q : StackPair} (h : p ∉ ofStackPair q) (v : Word) :
    p.same s (t.setStackPair q v) ↔ p.same s t := by
  cases q <;> simp only [ofStackPair, List.mem_cons, List.not_mem_nil, or_false, not_or] at h
  case bc => exact Place.same_setBc t h.1 h.2 v
  case de => exact Place.same_setDe t h.1 h.2 v
  case hl => exact Place.same_setHl t h.1 h.2 v
  case af =>
    cases p with
    | a => exact absurd rfl h.1
    | f => exact absurd rfl h.2
    | _ => rfl

@[simp] theorem Place.same_exchangeAf (ha : p ≠ .a) (hf : p ≠ .f) (hs : p ≠ .shadow) :
    p.same s t.exchangeAf ↔ p.same s t := by
  cases p with
  | a => exact absurd rfl ha
  | f => exact absurd rfl hf
  | shadow => exact absurd rfl hs
  | _ => rfl

@[simp] theorem Place.same_exchangeBanks (h : p ∉ [.b, .c, .d, .e, .h, .l, .shadow]) :
    p.same s t.exchangeBanks ↔ p.same s t := by
  cases p with
  | b | c | d | e | h | l | shadow => exact absurd (by decide) h
  | _ => rfl

@[simp] theorem Place.same_addT (n : Nat) : p.same s (t.addT n) ↔ p.same s t := by cases p <;> rfl
@[simp] theorem Place.same_afterRd (a : Word) : p.same s (t.afterRd a) ↔ p.same s t := by cases p <;> rfl
@[simp] theorem Place.same_wr (a : Word) (v : Byte) : p.same s (t.wr a v) ↔ p.same s t := by cases p <;> rfl
@[simp] theorem Place.same_raise (f : Fault) : p.same s (t.raise f) ↔ p.same s t := by cases p <;> rfl

@[simp] theorem Place.same_afterIndHl : p.same s t.afterIndHl ↔ p.same s t := Place.same_afterRd t t.main.hl

@[simp] theorem Place.same_afterRd16 (a : Word) : p.same s (t.afterRd16 a) ↔ p.same s t := by
  simp [State.afterRd16]

@[simp] theorem Place.same_wr16 (a v : Word) : p.same s (t.wr16 a v) ↔ p.same s t := by simp [State.wr16]

@[simp] theorem Place.same_push16 (h : p ≠ .sp) (v : Word) : p.same s (t.push16 v) ↔ p.same s t := by
  simp [State.push16, h]

@[simp] theorem Place.same_drop16 (h : p ≠ .sp) : p.same s t.drop16 ↔ p.same s t := by
  simp [State.drop16, h]

@[simp] theorem Place.same_popPc (hsp : p ≠ .sp) (hpc : p ≠ .pc) : p.same s t.popPc ↔ p.same s t := by
  simp [State.popPc, hsp, hpc]

@[simp] theorem Place.same_returnFromInterrupt (hsp : p ≠ .sp) (hpc : p ≠ .pc) (hi : p ≠ .iff1) :
    p.same s t.returnFromInterrupt ↔ p.same s t := by
  rw [← Place.same_popPc t hsp hpc]
  cases p with
  | iff1 => exact absurd rfl hi
  | _ => rfl

@[simp] theorem Place.same_jumpRelative (h : p ≠ .pc) (e : Byte) : p.same s (t.jumpRelative e) ↔ p.same s t :=
  Place.same_setPc t h _

@[simp] theorem Place.same_repeatIf (h : p ≠ .pc) (i : Instr) (again : Bool) :
    p.same s (t.repeatIf i again) ↔ p.same s t := by
  cases again <;> simp [State.repeatIf, h]

@[simp] theorem Place.same_storeAtSp (v : Word) : p.same s (t.storeAtSp v) ↔ p.same s t := by
  simp [State.storeAtSp]

@[simp] theorem Place.same_setBitAt (b : BitVec 3) (a : Word) : p.same s (t.setBitAt b a) ↔ p.same s t := by
  simp [State.setBitAt]

@[simp] theorem Place.same_resBitAt (b : BitVec 3) (a : Word) : p.same s (t.resBitAt b a) ↔ p.same s t := by
  simp [State.resBitAt]

/-! ### Operations that write F -/

section flags

variable (hf : p ≠ .f)
include hf

@[simp] theorem Place.same_aluCp (v : Byte) : p.same s (t.aluCp v) ↔ p.same s t := by simp [State.aluCp, hf]
@[simp] theorem Place.same_incAt (a : Word) : p.same s (t.incAt a) ↔ p.same s t := by simp [State.incAt, hf]
@[simp] theorem Place.same_decAt (a : Word) : p.same s (t.decAt a) ↔ p.same s t := by simp [State.decAt, hf]

@[simp] theorem Place.same_rotAt (k : RotOp) (a : Word) : p.same s (t.rotAt k a) ↔ p.same s t := by
  simp [State.rotAt, hf]

@[simp] theorem Place.same_rotR (k : RotOp) {r : Reg8} (h : p ≠ ofReg r) : p.same s (t.rotR k r) ↔ p.same s t := by
  simp [State.rotR, hf, h]

@[simp] theorem Place.same_testBit (b : BitVec 3) (v : Byte) : p.same s (t.testBit b v) ↔ p.same s t := by
  simp [State.testBit, hf]

@[simp] theorem Place.same_outBlock (hh : p ≠ .h) (hl : p ≠ .l) (by_ : Word) :
    p.same s (t.outBlock by_) ↔ p.same s t := by
  simp [State.outBlock, State.blockIoFlags, hf, hh, hl]

@[simp] theorem Place.same_inBlock (hb : p ≠ .b) (hh : p ≠ .h) (hl : p ≠ .l) (by_ : Word) (v : Byte) :
    p.same s (t.inBlock by_ v) ↔ p.same s t := by
  simp [State.inBlock, State.blockIoFlags, hf, hb, hh, hl]

@[simp] theorem Place.same_compareBlock (h : p ∉ [.b, .c, .h, .l]) (by_ : Word) :
    p.same s (t.compareBlock by_) ↔ p.same s t := by
  simp_all [State.compareBlock]

@[simp] theorem Place.same_moveBlock (h : p ∉ [.b, .c, .d, .e, .h, .l]) (by_ : Word) :
    p.same s (t.moveBlock by_) ↔ p.same s t := by
  simp_all [State.moveBlock]

section accumulator

variable (ha : p ≠ .a)
include ha

@[simp] theorem Place.same_aluAdd (v : Byte) (c : Bool) : p.same s (t.aluAdd v c) ↔ p.same s t := by
  simp [State.aluAdd, hf, ha]

@[simp] theorem Place.same_aluSub (v : Byte) (c : Bool) : p.same s (t.aluSub v c) ↔ p.same s t := by
  simp [State.aluSub, hf, ha]

@[simp] theorem Place.same_aluAnd (v : Byte) : p.same s (t.aluAnd v) ↔ p.same s t := by
  simp [State.aluAnd, hf, ha]

@[simp] theorem Place.same_aluXor (v : Byte) : p.same s (t.aluXor v) ↔ p.same s t := by
  simp [State.aluXor, hf, ha]

@[simp] theorem Place.same_aluOr (v : Byte) : p.same s (t.aluOr v) ↔ p.same s t := by
  simp [State.aluOr, hf, ha]

@[simp] theorem Place.same_rotA (k : RotOp) : p.same s (t.rotA k) ↔ p.same s t := by simp [State.rotA, hf, ha]
@[simp] theorem Place.same_loadIr (v : Byte) : p.same s (t.loadIr v) ↔ p.same s t := by simp [State.loadIr, hf, ha]

@[simp] theorem Place.same_rotateDigitLeft : p.same s t.rotateDigitLeft ↔ p.same s t := by
  simp [State.rotateDigitLeft, hf, ha]

@[simp] theorem Place.same_rotateDigitRight : p.same s t.rotateDigitRight ↔ p.same s t := by
  simp [State.rotateDigitRight, hf, ha]

end accumulator

end flags

end places

end Sys2Proof.Rules

namespace Sys2Proof.Machine

open Sys2Proof Sys2Proof.Rules

/-! ### Port operations -/

section ports

variable {p : Place}

/-- An input goes on from a state with every place as it was, or raises. -/
theorem State.inThen_same (s : State) {hi lo : Byte} {k : Byte → State → State}
    (hk : ∀ v u, p.same s u → p.same s (k v u)) : ∃ t, s.inThen hi lo k = .next t ∧ p.same s t := by
  by_cases h : registered s lo s.params.readPorts = true
  · obtain ⟨v, w, d, e, -⟩ := State.inThen_of_registered h hi k
    exact ⟨_, e, hk _ _ (by cases p <;> rfl)⟩
  · exact ⟨_, State.inThen_of_not_registered h hi k, by simp [Place.same_refl]⟩

/-- An output made at `u` goes on from a state with every place as in `u`, or raises. -/
theorem State.outThen_same {u : State} (hu : p.same s u) {hi lo v : Byte} {k : State → State}
    (hk : ∀ u, p.same s u → p.same s (k u)) : ∃ t, u.outThen hi lo v k = .next t ∧ p.same s t := by
  rcases u.outThen_eq hi lo v k with ⟨w, e, -⟩ | e
  · exact ⟨_, e, hk _ (by cases p <;> exact hu)⟩
  · exact ⟨_, e, by simpa using hu⟩

end ports

/-! ### Over all instructions -/

/-- Every instruction but EI leaves every place that its rule does not name. -/
theorem exec_same {i : Instr} (hi : i ≠ .ei) {p : Place} (hp : p ∉ writes i) (s : State) :
    ∃ t, exec i s = .next t ∧ p.same s t := by
  have hs := p.same_refl s
  cases i with
  | ei => exact absurd rfl hi
  | nop | ldIndBcA | ldIndDeA | ldIndNnHl | ldIndNnA | ldIndHlN | ldIndHlR | resBIndHl | setBIndHl | ldIndNnDd
  | ldIndNnIx | ldIxdN | ldIxdR | resBIxd | setBIxd | ldIndNnIy | ldIydN | ldIydR | resBIyd | setBIyd
  | unknownHalfIndexDd | unknownDdcb | unknownHalfIndexFd | unknownFdcb | unknownEd =>
    refine ⟨_, rfl, ?_⟩
    simp [hs]
  | outPortNA | outPortCR => exact State.outThen_same hs fun _ hu => by simp [hu]
  | halt =>
    cases p with
    | halted => exact absurd (by decide) hp
    | _ => exact ⟨_, rfl, rfl⟩
  | di =>
    cases p with
    | iff1 | iff2 => exact absurd (by decide) hp
    | _ => exact ⟨_, rfl, rfl⟩
  | im0 | im1 | im2 =>
    cases p with
    | im => exact absurd (by decide) hp
    | _ => exact ⟨_, rfl, rfl⟩
  | ldIA =>
    cases p with
    | i => exact absurd (by decide) hp
    | _ => exact ⟨_, rfl, rfl⟩
  | ldRA =>
    cases p with
    | r => exact absurd (by decide) hp
    | _ => exact ⟨_, rfl, rfl⟩
  | djnzE | jrNzE | jrZE | jrNcE | jrCE | jpCcNn | callCcNn | retCc =>
    simp only [writes, List.mem_cons, List.not_mem_nil, or_false, not_or] at hp
    refine exists_next_ite (fun _ => ?_) fun _ => ?_ <;> simp [hp, hs]
  | inAPortN | inRPortC | ini | inir | ind | indr =>
    simp only [writes, List.mem_cons, List.not_mem_nil, or_false, not_or] at hp
    exact s.inThen_same fun _ _ hu => by simp [hp, hu]
  | outi | outd | otir | otdr =>
    simp only [writes, List.mem_cons, List.not_mem_nil, or_false, not_or] at hp
    exact State.outThen_same (by simp [hp, hs]) fun _ hu => by simp [hp, hu]
  | _ =>
    simp only [writes, List.mem_cons, List.not_mem_nil, or_false, not_or] at hp
    refine ⟨_, rfl, ?_⟩
    simp [hp, hs]

end Sys2Proof.Machine
end

section
/-! PROOF. The CPU's state (10_state.md): the register file, what an instruction leaves of it, the VDP behind its ports,
bit 7 of R, the pending request and the held fault. -/

namespace Sys2Proof.Machine

open Sys2Proof Sys2Proof.Rules

/-! ### The register file (R10, R21, R28) -/

/-- Settles O5: F's bits are those that `Flags.ofByte` finds in its byte. -/
theorem registersReadAsWritten : Obligations.RegistersReadAsWritten := by
  refine ⟨Bank.get_set, fun b => ?_, fun b v => ?_, fun f => ?_⟩
  · rw [b.bc_eq, b.de_eq, b.hl_eq, b.af_eq]
    simp only [wordOfBytes_toNat, Nat.add_comm, and_self]
  · exact ⟨b.setBc_bc v, b.setDe_de v, b.setHl_hl v, b.setAf_af v⟩
  · have h := f.ofByte_toByte
    exact ⟨congrArg Flags.s h, congrArg Flags.z h, congrArg Flags.f5 h, congrArg Flags.h h, congrArg Flags.f3 h,
      congrArg Flags.p h, congrArg Flags.n h, congrArg Flags.c h, h⟩

/-! ### What an instruction leaves -/

/-- Settles O21: the registers place by place, the rest from what a port operation reaches. -/
theorem instructionsWriteOnlyTheirRegisters : Obligations.InstructionsWriteOnlyTheirRegisters := by
  intro i s hi
  obtain ⟨t, e, w, hw, hout⟩ := exec_reachesPort hi s
  have hvdp : t.vdp = w := congrArg Outside.vdp hout
  refine ⟨t, e, fun p hp => ?_, congrArg Outside.acc hout, congrArg Outside.inputs hout,
    congrArg Outside.params hout, congrArg Outside.resetState hout, hvdp ▸ hw.screen⟩
  obtain ⟨t', e', h⟩ := exec_same hi hp s
  obtain rfl : t' = t := Host.Outcome.next.inj (e'.symm.trans e)
  exact h

/-- An input from a port that is not the VDP's leaves the VDP. -/
theorem State.inThen_vdp {s : State} {lo : Byte} (h : vdpPort s lo = false) {hi : Byte} {k : Byte → State → State}
    (hk : ∀ v u, (k v u).outside = u.outside) : ∃ t, s.inThen hi lo k = .next t ∧ t.vdp = s.vdp := by
  have hvdp v u : (k v u).vdp = u.vdp := congrArg Outside.vdp (hk v u)
  simp only [vdpPort, Bool.or_eq_false_iff, beq_eq_false_iff_ne] at h
  rcases s.inThen_cases hi lo k with ⟨hd, -⟩ | ⟨hc, -⟩ | ⟨-, -, -, e⟩ | ⟨-, -, -, e⟩
  · exact absurd hd h.1
  · exact absurd hc h.2
  · exact ⟨_, e, hvdp ..⟩
  · exact ⟨_, e, rfl⟩

/-- An output to a port that is not the VDP's, after steps that led from `s` to `u`, leaves the VDP. -/
theorem State.outThen_vdp {s u : State} (hu : u.outside = s.outside) {lo : Byte} (h : vdpPort s lo = false)
    {hi v : Byte} {k : State → State} (hk : ∀ u, (k u).outside = u.outside) :
    ∃ t, u.outThen hi lo v k = .next t ∧ t.vdp = s.vdp := by
  have hvdp : u.vdp = s.vdp := congrArg Outside.vdp hu
  have hparams : u.params = s.params := congrArg Outside.params hu
  simp only [vdpPort, Bool.or_eq_false_iff, beq_eq_false_iff_ne, ← hparams] at h
  rcases u.outThen_cases hi lo v k with ⟨hd, -⟩ | ⟨hc, -⟩ | ⟨-, -, -, e⟩ | ⟨-, -, -, e⟩
  · exact absurd hd h.1
  · exact absurd hc h.2
  · exact ⟨_, e, (congrArg Outside.vdp (hk u)).trans hvdp⟩
  · exact ⟨_, e, hvdp⟩

/-- A port operation on a port that is not the VDP's leaves the VDP. -/
theorem exec_vdp_of_other_port {i : Instr} {s : State} {lo : Byte} {more : List Byte} {counted : Bool}
    (hp : portOf s i = some (lo, more, counted)) (h : vdpPort s lo = false) :
    ∃ t, exec i s = .next t ∧ t.vdp = s.vdp := by
  cases i with
  | ini | ind | inir | indr | inAPortN | inRPortC =>
    cases hp
    exact State.inThen_vdp h fun _ _ => by simp -implicitDefEqProofs
  | outPortNA | outPortCR | outi | outd | otir | otdr =>
    cases hp
    exact State.outThen_vdp (by rfl) h fun _ => by simp -implicitDefEqProofs
  | _ => cases hp

/-- Settles O23: an instruction without a port operation leaves the VDP, and so does one on another port. -/
theorem onlyPortOperationsReachTheVdp : Obligations.OnlyPortOperationsReachTheVdp := by
  intro i s hi
  cases hp : portOf s i with
  | none =>
    obtain ⟨t, e, h⟩ := exec_outside_of_no_port hi s hp
    exact ⟨t, e, fun _ => congrArg Outside.vdp h⟩
  | some port =>
    obtain ⟨lo, more, counted⟩ := port
    cases h : vdpPort s lo with
    | false =>
      obtain ⟨t, e, ht⟩ := exec_vdp_of_other_port hp h
      exact ⟨t, e, fun _ => ht⟩
    | true =>
      obtain ⟨t, e, -⟩ := exec_reachesPort hi s
      exact ⟨t, e, fun hne => nomatch h.symm.trans hne⟩

/-! ### Bit 7 of R (R27, R150) -/

theorem r_ne_ofReg (q : Reg8) : Place.r ≠ ofReg q := by cases q <;> decide

theorem r_notMem_ofPair (q : Pair) : Place.r ∉ ofPair q := by cases q <;> decide

theorem r_notMem_ofStackPair (q : StackPair) : Place.r ∉ ofStackPair q := by cases q <;> decide

/-- Only LD R,A names R. -/
theorem r_notMem_writes {i : Instr} (h : i ≠ .ldRA) : Place.r ∉ writes i := by
  cases i with
  | ldRA => exact absurd rfl h
  | _ => simp [writes, r_ne_ofReg, r_notMem_ofPair, r_notMem_ofStackPair]

/-- Settles O19: R is a place that only LD R,A writes, and the refresh keeps bit 7. -/
theorem onlyLdRAChangesBitSevenOfR : Obligations.OnlyLdRAChangesBitSevenOfR := by
  intro s t h
  rcases cpuStepWith_cases exec s with ⟨hn, e⟩ | ⟨-, ha, e⟩ | ⟨-, -, hh, e⟩ | ⟨-, -, -, e⟩ <;>
    have e := e.symm.trans h
  · obtain rfl := Host.Outcome.next.inj e
    exact ⟨fun _ _ => State.refreshR_bit7 _, fun hn' => nomatch hn.symm.trans hn'⟩
  · obtain rfl := Host.Outcome.next.inj e
    exact ⟨fun _ _ => State.refreshR_bit7 _, fun _ hi => nomatch ha.1.symm.trans hi⟩
  · obtain rfl := Host.Outcome.next.inj e
    exact ⟨fun _ _ => State.refreshR_bit7 _, fun _ _ hh' => nomatch hh.symm.trans hh'⟩
  · obtain ⟨u, hu, rfl⟩ := Out.mapNext_eq_next.mp e
    rw [State.refreshR_bit7]
    refine ⟨fun hra hei => ?_, fun _ _ _ hra => ?_⟩
    · obtain ⟨u', hu', hr⟩ := exec_same hei (r_notMem_writes hra) (s.skip s.fetchInstr.size)
      obtain rfl : u' = u := Host.Outcome.next.inj (hu'.symm.trans hu)
      exact congrArg (BitVec.getLsbD · 7) hr
    · rw [hra] at hu
      obtain rfl := Host.Outcome.next.inj hu
      rfl

/-! ### The pending request (R35, R446) -/

/-- From `s` to `t` a machine that accepts nothing keeps its pending flags. -/
def State.KeepsPending (s t : State) : Prop :=
  s.nmiPending = false → ¬s.accepts → t.intPending = s.intPending ∧ t.nmiPending = false

theorem exec_keepsPending {i : Instr} {s t : State} (hi : i ≠ .ei) (h : exec i s = .next t) :
    t.intPending = s.intPending ∧ t.nmiPending = s.nmiPending := by
  obtain ⟨t', e, w, -, hout⟩ := exec_reachesPort hi s
  obtain rfl : t' = t := Host.Outcome.next.inj (e.symm.trans h)
  exact ⟨congrArg Outside.intPending hout, congrArg Outside.nmiPending hout⟩

/-- Every step of the CPU; EI's nested step starts from the same flags, so it accepts nothing either. -/
theorem cpuStep_keepsPending {s t : State} (h : cpuStep s = .next t) : s.KeepsPending t := by
  rw [cpuStep_eq] at h
  refine cpuStepFuel_induction (P := State.KeepsPending) ?nmi ?int ?idle ?instr ?ei _ s t h
  case nmi => exact fun s hn hn' => nomatch hn.symm.trans hn'
  case int => exact fun s _ ha _ hna => absurd ha hna
  case idle => exact fun s _ _ _ hn _ => ⟨rfl, hn⟩
  case instr =>
    intro s t _ _ _ hi ht hn _
    obtain ⟨hint, hnmi⟩ := exec_keepsPending hi ht
    exact ⟨hint, hnmi.trans hn⟩
  case ei => exact fun s u _ _ _ _ hu => ⟨fun _ => hu, fun _ => hu⟩

/-- Settles O12, by induction over EI's nested steps. -/
theorem pendingRequestIsNeverDropped : Obligations.PendingRequestIsNeverDropped :=
  fun _ _ hn ha h => cpuStep_keepsPending h hn ha

/-! ### The held fault (R38, R452, R466) -/

/-- Without a reset the host's input leaves the fault. -/
theorem State.applyInput_fault (s : State) {input : HostInput} (h : input.reset = none) :
    (s.applyInput input).fault = s.fault := by
  simp only [State.applyInput, h]
  split <;> split <;> split <;> rfl

/-- A reset comes before the rest of the host's input. -/
theorem State.applyInput_of_reset (s : State) {input : HostInput} {image : List Host.Cell}
    (h : input.reset = some image) :
    s.applyInput input = (s.hostReset image).applyInput { input with reset := none } := by
  simp only [State.applyInput, h]

theorem step_of_fault {s : State} {f : Fault} (h : s.afterInput.fault = some f) : step s = .fault f := by
  simp only [step, driverTurn, h]

/-- A step sees the host's input and what it makes of the state, and nothing else. -/
theorem step_congr {s t : State} (h : s.afterInput = t.afterInput)
    (hr : s.nextInput.shouldRender = t.nextInput.shouldRender) : step s = step t := by
  simp only [step, driverTurn, h, hr]

/-- Settles O13: without a reset the input keeps the fault; a reset comes first in its turn and reads `ResetState`. -/
theorem faultHoldsUntilTheHostResets : Obligations.FaultHoldsUntilTheHostResets := by
  refine ⟨fun s f hf hr => step_of_fault ?_, fun s image hr => ⟨step_congr ?_ rfl, fun hf => ?_⟩⟩
  · exact (State.applyInput_fault _ hr).trans hf
  · exact State.applyInput_of_reset _ hr
  · rw [State.afterInput, State.applyInput_of_reset _ hr, State.applyInput_fault _ rfl]
    exact hf

end Sys2Proof.Machine
end

section
/-! PROOF. Memory (R62 to R65): 16-bit stores read back, canonical memories, and effective addresses (R95). -/

namespace Sys2Proof.Machine

open Sys2Proof Sys2Proof.Rules

/-! ### 16-bit values (R63, R64) -/

/-- The byte at `a` and the byte after it; `a + 1` wraps at 0xFFFF and is never `a`. -/
theorem State.rd_wr16_bytes {s : State} (hf : s.mem.isFlat = true) (a v : Word) :
    (s.wr16 a v).rd a = loByte v ∧ (s.wr16 a v).rd (a + 1) = hiByte v := by
  constructor
  · rw [State.rd_wr16 hf, if_neg (Word.add_one_ne a).symm, if_pos rfl]
  · rw [State.rd_wr16 hf, if_pos rfl]

/-- A 16-bit value stored is the one read back. -/
theorem State.rd16_wr16 {s : State} (hf : s.mem.isFlat = true) (a v : Word) : (s.wr16 a v).rd16 a = v := by
  have hf' : (s.wr16 a v).mem.isFlat = true := by simp [State.wr16, hf]
  obtain ⟨hlo, hhi⟩ := State.rd_wr16_bytes hf a v
  rw [State.rd16_of_isFlat hf', hlo, hhi, wordOfBytes_lo_hi]

/-! ### Effective addresses (R9, R95) -/

/-- The obligations' `sext8` is the byte in two's complement. -/
theorem signed_eq_toInt (d : Byte) : signed d = d.toInt := by
  rw [signed, BitVec.toInt_eq_toNat_cond]
  split <;> split <;> omega

/-- Truncating the integer sum is adding words. -/
theorem displaced_eq (base : Word) (d : Byte) : displaced base d = base + sext8 d := by
  rw [displaced, signed_eq_toInt, BitVec.ofInt_add, BitVec.ofInt_natCast, BitVec.ofNat_toNat, BitVec.setWidth_eq,
    sext8_eq]

/-- Settles O7, from the rules of the default `Mem` and the two's complement of a displacement. -/
theorem memoryIsAFlatArrayOfBytes : Obligations.MemoryIsAFlatArrayOfBytes := by
  refine ⟨fun s hf => ⟨fun a x v => ?_, fun a => ⟨?_, ?_⟩, fun a v => ?_, fun n => ⟨?_, ?_⟩⟩,
    fun _ _ => Memory.ext_of_wf, fun s d => ?_⟩
  · exact State.rd_wr hf a v x
  · exact State.afterRd_of_isFlat hf a
  · rw [State.rd16_of_isFlat hf, wordOfBytes_toNat]
  · obtain ⟨hlo, hhi⟩ := State.rd_wr16_bytes hf a v
    exact ⟨hlo, hhi, State.rd16_wr16 hf a v⟩
  · exact State.skip_of_isFlat hf n
  · exact State.fetchByte_of_isFlat hf n
  · exact ⟨(displaced_eq s.ix d).symm, (displaced_eq s.iy d).symm⟩

end Sys2Proof.Machine
end

section
/-! SUPPORT. The decoder and the encoder, format by format (R90 to R104): what the fields of a composed byte are, that a
well-formed instruction is decoded from its own bytes, and that what is decoded is well formed and encodes to the bytes
read. -/

namespace Sys2Proof

/-! ### The fields of a byte (R93) -/

@[simp] theorem fieldX_append (x : BitVec 2) (y z : BitVec 3) : fieldX (x ++ y ++ z) = x := by
  revert x y z
  decide

@[simp] theorem fieldY_append (x : BitVec 2) (y z : BitVec 3) : fieldY (x ++ y ++ z) = y := by
  revert x y z
  decide

@[simp] theorem fieldZ_append (x : BitVec 2) (y z : BitVec 3) : fieldZ (x ++ y ++ z) = z := by
  revert x y z
  decide

@[simp] theorem Reg8.ofCode_code (r : Reg8) : Reg8.ofCode r.code = some r := by cases r <;> rfl

/-! ### Lengths (R104) -/

theorem encode_length (i : Instr) : (encode i).length = i.size := by cases i <;> rfl

theorem Instr.size_le (i : Instr) : i.size ≤ 4 := by cases i <;> exact Nat.le_of_ble_eq_true rfl

/-! ### Bytes that begin with an instruction -/

/-- The bytes begin with those of the well-formed instruction `i`. -/
def Instr.Heads (i : Instr) (bs : List Byte) : Prop := i.WellFormed ∧ encode i <+: bs

/-- Bytes that begin with an instruction do so when they are cut, or filled with zeros, to four. -/
theorem Instr.Heads.fourBytes {i : Instr} {bs : List Byte} (h : i.Heads bs) :
    i.Heads [bs.getD 0 0#8, bs.getD 1 0#8, bs.getD 2 0#8, bs.getD 3 0#8] := by
  have hcut : [bs.getD 0 0#8, bs.getD 1 0#8, bs.getD 2 0#8, bs.getD 3 0#8] <+: bs ++ [0#8, 0#8, 0#8, 0#8] := by
    match bs with
    | [] | [_] | [_, _] | [_, _, _] | _ :: _ :: _ :: _ :: _ => simp
  have hlen : (encode i).length ≤ 4 := encode_length i ▸ i.size_le
  obtain ⟨hwf, hpre⟩ := h
  exact ⟨hwf, List.prefix_of_prefix_length_le (hpre.trans (List.prefix_append ..)) hcut hlen⟩

/-- The key bytes and the operand bytes can be looked at apart. -/
theorem Instr.Heads.of_take_drop {i : Instr} (n : Nat) {key operands : List Byte}
    (hkey : i.WellFormed ∧ (encode i).take n = key) (hops : (encode i).drop n <+: operands) :
    i.Heads (key ++ operands) := by
  obtain ⟨hwf, rfl⟩ := hkey
  refine ⟨hwf, ?_⟩
  conv => lhs; rw [← (encode i).take_append_drop n]
  exact (List.prefix_append_right_inj _).mpr hops

/-! ### Decoding what was encoded

The rows that a set of second bytes defines are checked at every second byte; the operand bytes play no part. -/

theorem decode4_of_isUndefinedEd (op : Byte) (h : Keys.isUndefinedEd op = true) (b2 b3 : Byte) :
    decode4 0xED#8 op b2 b3 = .unknownEd op := by
  revert op
  exact of_decide_eq_true rfl

theorem decode4_dd_of_isHalfIndex (op : Byte) (h : Keys.isHalfIndex op = true) (b2 b3 : Byte) :
    decode4 0xDD#8 op b2 b3 = .unknownHalfIndexDd op := by
  revert op
  exact of_decide_eq_true rfl

theorem decode4_dd_of_isDiscard (op : Byte) (h : Keys.isDiscard op = true) (b2 b3 : Byte) :
    decode4 0xDD#8 op b2 b3 = .discardedPrefixDd op := by
  revert op
  exact of_decide_eq_true rfl

theorem decode4_fd_of_isHalfIndex (op : Byte) (h : Keys.isHalfIndex op = true) (b2 b3 : Byte) :
    decode4 0xFD#8 op b2 b3 = .unknownHalfIndexFd op := by
  revert op
  exact of_decide_eq_true rfl

theorem decode4_fd_of_isDiscard (op : Byte) (h : Keys.isDiscard op = true) (b2 b3 : Byte) :
    decode4 0xFD#8 op b2 b3 = .discardedPrefixFd op := by
  revert op
  exact of_decide_eq_true rfl

theorem isUndefinedIndexedCb_iff {op : Byte} : Keys.isUndefinedIndexedCb op = true ↔ fieldZ op ≠ 6#3 := by
  simp [Keys.isUndefinedIndexedCb, fieldZ]

theorem decode4_rstP (t : BitVec 3) (b1 b2 b3 : Byte) : decode4 (0b11#2 ++ t ++ 0b111#3) b1 b2 b3 = .rstP t := by
  revert t
  exact of_decide_eq_true rfl

/-- Four bytes that begin with an instruction decode to it: the class rows by their sets, a 3-bit operand by the fields
of its byte, a register or pair by its code, `nn` from its two bytes, and every other row by running the decoder. -/
theorem Instr.Heads.decode4_eq {i : Instr} {b0 b1 b2 b3 : Byte} (h : i.Heads [b0, b1, b2, b3]) :
    decode4 b0 b1 b2 b3 = i := by
  obtain ⟨hi, t, h⟩ := h
  cases i with
  | unknownEd op => cases h; exact decode4_of_isUndefinedEd _ hi _ _
  | unknownHalfIndexDd op => cases h; exact decode4_dd_of_isHalfIndex _ hi _ _
  | discardedPrefixDd op => cases h; exact decode4_dd_of_isDiscard _ hi _ _
  | unknownHalfIndexFd op => cases h; exact decode4_fd_of_isHalfIndex _ hi _ _
  | discardedPrefixFd op => cases h; exact decode4_fd_of_isDiscard _ hi _ _
  | unknownDdcb d op | unknownFdcb d op => cases h; exact if_neg (isUndefinedIndexedCb_iff.mp hi)
  | bitBR b r | resBR b r | setBR b r => cases h; simp [decode4, formKey, decodeCb]
  | bitBIndHl b | resBIndHl b | setBIndHl b => cases h; simp [decode4, formKey, decodeCb, Reg8.ofCode]
  | bitBIxd b d | resBIxd b d | setBIxd b d => cases h; simp [decode4, formKey, decodeDdcb]
  | bitBIyd b d | resBIyd b d | setBIyd b d => cases h; simp [decode4, formKey, decodeFdcb]
  | rstP t => cases h; exact decode4_rstP t ..
  | ldRR r r' => cases h; cases r <;> cases r' <;> rfl
  | addHlSs x | incSs x | decSs x | sbcHlSs x | adcHlSs x | popQq x | pushQq x | addIxPp x | addIyRr x | retCc x
  | incR x | decR x | ldRN x | ldRIndHl x | ldIndHlR x | addAR x | adcAR x | subR x | sbcAR x | andR x | xorR x
  | orR x | cpR x | inRPortC x | outPortCR x | rlcR x | rrcR x | rlR x | rrR x | slaR x | sraR x | sllR x | srlR x
  | ldRIxd x | ldIxdR _ x | ldRIyd x | ldIydR _ x => cases h; cases x <;> rfl
  | ldDdNn x nn | ldDdIndNn x nn | jpCcNn x nn | callCcNn x nn =>
    cases h; cases x <;> exact congrArg _ (wordOfBytes_lo_hi nn)
  | ldIndNnDd nn x => cases h; cases x <;> exact congrArg (Instr.ldIndNnDd · _) (wordOfBytes_lo_hi nn)
  | jpNn nn | callNn nn | ldIndNnHl nn | ldHlIndNn nn | ldIndNnA nn | ldAIndNn nn | ldIxNn nn | ldIndNnIx nn
  | ldIxIndNn nn | ldIyNn nn | ldIndNnIy nn | ldIyIndNn nn => cases h; exact congrArg _ (wordOfBytes_lo_hi nn)
  | _ => cases h; rfl

/-! ### Encoding what was decoded: the key bytes

One check over the opcode byte for each format: the row it selects is well formed and encodes to the same key. -/

theorem decodeOp_key (op n1 n2 : Byte) (h : op ≠ 0xCB#8 ∧ op ≠ 0xED#8 ∧ op ≠ 0xDD#8 ∧ op ≠ 0xFD#8) :
    (decodeOp op n1 n2).WellFormed ∧ (encode (decodeOp op n1 n2)).take 1 = [op] := by
  revert op
  exact of_decide_eq_true rfl

theorem decodeCb_key (op : Byte) : (decodeCb op).WellFormed ∧ (encode (decodeCb op)).take 2 = [0xCB#8, op] := by
  revert op
  exact of_decide_eq_true rfl

theorem decodeEd_key (op n1 n2 : Byte) :
    (decodeEd op n1 n2).WellFormed ∧ (encode (decodeEd op n1 n2)).take 2 = [0xED#8, op] := by
  revert op
  exact of_decide_eq_true rfl

theorem decodeDd_key (op n1 n2 : Byte) (h : op ≠ 0xCB#8) :
    (decodeDd op n1 n2).WellFormed ∧ (encode (decodeDd op n1 n2)).take 2 = [0xDD#8, op] := by
  revert op
  exact of_decide_eq_true rfl

theorem decodeFd_key (op n1 n2 : Byte) (h : op ≠ 0xCB#8) :
    (decodeFd op n1 n2).WellFormed ∧ (encode (decodeFd op n1 n2)).take 2 = [0xFD#8, op] := by
  revert op
  exact of_decide_eq_true rfl

theorem decodeDdcb_opcode (d op : Byte) :
    (decodeDdcb d op).WellFormed ∧ (encode (decodeDdcb d op)).drop 3 = [op] := by
  revert op
  exact of_decide_eq_true rfl

theorem decodeFdcb_opcode (d op : Byte) :
    (decodeFdcb d op).WellFormed ∧ (encode (decodeFdcb d op)).drop 3 = [op] := by
  revert op
  exact of_decide_eq_true rfl

theorem decodeDdcb_displacement (d op : Byte) : (encode (decodeDdcb d op)).take 3 = [0xDD#8, 0xCB#8, d] := by
  fun_cases decodeDdcb d op <;> rfl

theorem decodeFdcb_displacement (d op : Byte) : (encode (decodeFdcb d op)).take 3 = [0xFD#8, 0xCB#8, d] := by
  fun_cases decodeFdcb d op <;> rfl

/-! ### Encoding what was decoded: the operand bytes

Along the decoder's branches: whichever row is selected, its operands are the bytes that follow the key. -/

theorem decodeAluN_operands (y : BitVec 3) (n : Byte) : (encode (decodeAluN y n)).drop 1 = [n] := by
  fun_cases decodeAluN y n <;> rfl

theorem decodeOp2_operands (op : Byte) : (encode (decodeOp2 op)).drop 1 = [] := by
  fun_cases decodeOp2 op
  · fun_cases decodeAluR <;> rfl
  · fun_cases decodeAluHl <;> rfl

theorem decodeOp_operands (op n1 n2 : Byte) (rest : List Byte) :
    (encode (decodeOp op n1 n2)).drop 1 <+: n1 :: n2 :: rest := by
  fun_cases decodeOp op n1 n2
  · fun_cases decodeOp0 op n1 n2 <;> simp +zetaDelta [encode]
  · fun_cases decodeOp1 op <;> simp [encode]
  · rw [decodeOp2_operands]
    exact List.nil_prefix
  · fun_cases decodeOp3 op n1 n2
    case case18 =>
      rw [decodeAluN_operands]
      exact List.prefix_append [n1] _
    all_goals simp +zetaDelta [encode]

theorem decodeCb_operands (op : Byte) : (encode (decodeCb op)).drop 2 = [] := by
  fun_cases decodeCb op <;> rfl

theorem decodeEd_operands (op n1 n2 : Byte) (rest : List Byte) :
    (encode (decodeEd op n1 n2)).drop 2 <+: n1 :: n2 :: rest := by
  fun_cases decodeEd op n1 n2
  · fun_cases decodeEd1 op n1 n2 <;> simp +zetaDelta [encode]
  · fun_cases decodeEd2 op <;> simp [encode]
  · simp [encode]

theorem encode_dd_other (op : Byte) :
    encode (if Keys.isHalfIndex op then .unknownHalfIndexDd op else .discardedPrefixDd op) = [0xDD#8, op] := by
  split <;> rfl

theorem encode_fd_other (op : Byte) :
    encode (if Keys.isHalfIndex op then .unknownHalfIndexFd op else .discardedPrefixFd op) = [0xFD#8, op] := by
  split <;> rfl

theorem decodeDd_operands (op n1 n2 : Byte) (rest : List Byte) :
    (encode (decodeDd op n1 n2)).drop 2 <+: n1 :: n2 :: rest := by
  fun_cases decodeDd op n1 n2 <;> simp +zetaDelta [↓encode_dd_other, encode]

theorem decodeFd_operands (op n1 n2 : Byte) (rest : List Byte) :
    (encode (decodeFd op n1 n2)).drop 2 <+: n1 :: n2 :: rest := by
  fun_cases decodeFd op n1 n2 <;> simp +zetaDelta [↓encode_fd_other, encode]

/-- Any four bytes begin with the instruction they decode to: key and operands, format by format (R91, R96). -/
theorem decode4_heads (b0 b1 b2 b3 : Byte) : (decode4 b0 b1 b2 b3).Heads [b0, b1, b2, b3] := by
  unfold decode4 formKey
  split_ifs with hcb hed hdd hddcb hfd hfdcb
  · subst hcb
    exact .of_take_drop 2 (decodeCb_key b1) (decodeCb_operands b1 ▸ List.nil_prefix)
  · subst hed
    exact .of_take_drop 2 (decodeEd_key b1 b2 b3) (decodeEd_operands b1 b2 b3 [])
  · subst hdd hddcb
    obtain ⟨hwf, hop⟩ := decodeDdcb_opcode b2 b3
    exact .of_take_drop 3 ⟨hwf, decodeDdcb_displacement b2 b3⟩ (hop ▸ List.prefix_rfl)
  · subst hdd
    exact .of_take_drop 2 (decodeDd_key b1 b2 b3 hddcb) (decodeDd_operands b1 b2 b3 [])
  · subst hfd hfdcb
    obtain ⟨hwf, hop⟩ := decodeFdcb_opcode b2 b3
    exact .of_take_drop 3 ⟨hwf, decodeFdcb_displacement b2 b3⟩ (hop ▸ List.prefix_rfl)
  · subst hfd
    exact .of_take_drop 2 (decodeFd_key b1 b2 b3 hfdcb) (decodeFd_operands b1 b2 b3 [])
  · exact .of_take_drop 1 (decodeOp_key b0 b1 b2 ⟨hcb, hed, hdd, hfd⟩) (decodeOp_operands b0 b1 b2 [b3])

/-- Four bytes decode to `i` exactly when they begin with the well-formed instruction `i`. -/
theorem decode4_eq_iff {i : Instr} {b0 b1 b2 b3 : Byte} : decode4 b0 b1 b2 b3 = i ↔ i.Heads [b0, b1, b2, b3] :=
  ⟨fun h => h ▸ decode4_heads b0 b1 b2 b3, Instr.Heads.decode4_eq⟩

end Sys2Proof
end

section
/-! SUPPORT. The opcode key as a number (R90, R92) and the rows of the opcode table that select it (R109). -/

namespace Sys2Proof

open Sys2Proof.Rules

/-! ### Keys as numbers (R92) -/

theorem toNat_append_eq_add {m n : Nat} (x : BitVec m) (y : BitVec n) :
    (x ++ y).toNat = x.toNat * 2 ^ n + y.toNat := by
  rw [BitVec.toNat_append, Nat.shiftLeft_eq, Nat.mul_comm, Nat.two_pow_add_eq_or_of_lt y.isLt]

/-- A mask of two whole bytes, the displacement left out, and `m`: the displacement takes no part in the selection. -/
theorem indexedCbKey_and_mask (p : Word) (d op m : Byte) :
    (65536 * p.toNat + 256 * d.toNat + op.toNat) &&& (0xFFFF0000 + m.toNat) = 65536 * p.toNat + (op &&& m).toNat := by
  have hkey : 65536 * p.toNat + 256 * d.toNat + op.toNat = (p ++ d ++ op).toNat := by
    simp only [toNat_append_eq_add]
    omega
  have hmask : 0xFFFF0000 + m.toNat = (BitVec.allOnes 16 ++ 0#8 ++ m).toNat := by
    rw [toNat_append_eq_add]
    rfl
  have hand : (p ++ d ++ op) &&& (BitVec.allOnes 16 ++ 0#8 ++ m) = p ++ 0#8 ++ (op &&& m) := by
    simp only [BitVec.and_append, BitVec.and_allOnes, BitVec.and_zero]
  rw [hkey, hmask, ← BitVec.toNat_and, hand]
  simp only [toNat_append_eq_add, BitVec.toNat_zero]
  omega

/-- The mask of a class row keeps the prefix only. -/
theorem prefixedKey_and_mask (op : Byte) :
    (0xED00 + op.toNat) &&& 0xFF00 = 0xED00 ∧ (0xDD00 + op.toNat) &&& 0xFF00 = 0xDD00 ∧
      (0xFD00 + op.toNat) &&& 0xFF00 = 0xFD00 := by
  revert op
  decide

/-! ### A row selects a key, by format -/

/-- The key of `i` agrees with its row under the row's mask. -/
abbrev RowSelects (i : Instr) : Prop := keyNumber (encode i) &&& (tableRow i).2.1 = (tableRow i).1

section selects

variable {i : Instr} {op d : Byte} {rest : List Byte} {mask row len : Nat}

theorem rowSelects_op (hi : tableRow i = (row, mask, len)) (he : encode i = op :: rest)
    (hop : op ≠ 0xCB#8 ∧ op ≠ 0xED#8 ∧ op ≠ 0xDD#8 ∧ op ≠ 0xFD#8) (hrow : op.toNat &&& mask = row) :
    RowSelects i := by
  obtain ⟨hcb, hed, hdd, hfd⟩ := hop
  simp [RowSelects, hi, he, keyNumber, hcb, hed, hdd, hfd, hrow]

theorem rowSelects_ed (hi : tableRow i = (row, mask, len)) (he : encode i = 0xED#8 :: op :: rest)
    (hrow : (0xED00 + op.toNat) &&& mask = row) : RowSelects i := by
  simp [RowSelects, hi, he, keyNumber, hrow]

theorem rowSelects_dd (hi : tableRow i = (row, mask, len)) (he : encode i = 0xDD#8 :: op :: rest)
    (hop : op ≠ 0xCB#8 ∨ rest = []) (hrow : (0xDD00 + op.toNat) &&& mask = row) : RowSelects i := by
  rcases hop with hop | hop <;> simp [RowSelects, hi, he, keyNumber, hop, hrow]

theorem rowSelects_fd (hi : tableRow i = (row, mask, len)) (he : encode i = 0xFD#8 :: op :: rest)
    (hop : op ≠ 0xCB#8 ∨ rest = []) (hrow : (0xFD00 + op.toNat) &&& mask = row) : RowSelects i := by
  rcases hop with hop | hop <;> simp [RowSelects, hi, he, keyNumber, hop, hrow]

theorem rowSelects_ddcb (m : Byte) (hi : tableRow i = (row, 0xFFFF0000 + m.toNat, len))
    (he : encode i = [0xDD#8, 0xCB#8, d, op]) (hrow : 0xDDCB0000 + (op &&& m).toNat = row) : RowSelects i := by
  rw [RowSelects, hi, he]
  exact (indexedCbKey_and_mask 0xDDCB#16 d op m).trans hrow

theorem rowSelects_fdcb (m : Byte) (hi : tableRow i = (row, 0xFFFF0000 + m.toNat, len))
    (he : encode i = [0xFD#8, 0xCB#8, d, op]) (hrow : 0xFDCB0000 + (op &&& m).toNat = row) : RowSelects i := by
  rw [RowSelects, hi, he]
  exact (indexedCbKey_and_mask 0xFDCB#16 d op m).trans hrow

end selects

/-- The row mask of an indexed bit instruction keeps all but the bit number. -/
theorem opcode_and_z_mask (x : BitVec 2) (b : BitVec 3) :
    (x ++ b ++ 0b110#3) &&& 0xC7#8 = x ++ 0b000#3 ++ 0b110#3 := by
  revert x b
  decide

/-- By format; a 3-bit operand, a register or a pair is checked at each of its codes. -/
theorem rowSelects (i : Instr) : RowSelects i := by
  cases i with
  | djnzE | jrE | jrNzE | jrZE | jrNcE | jrCE | ldIndNnHl | ldHlIndNn | ldIndNnA | ldAIndNn | ldIndHlN | addAN | adcAN
  | subN | sbcAN | andN | xorN | orN | cpN | jpNn | outPortNA | inAPortN | callNn =>
    exact rowSelects_op rfl rfl (by decide) rfl
  | ldDdNn x | ldRN x | jpCcNn x | callCcNn x => cases x <;> exact rowSelects_op rfl rfl (by decide) rfl
  | ldIndNnDd _ x | ldDdIndNn x => cases x <;> exact rowSelects_ed rfl rfl rfl
  | ldIxNn | ldIndNnIx | ldIxIndNn | incIxd | decIxd | ldIxdN | addAIxd | adcAIxd | subIxd | sbcAIxd | andIxd | xorIxd
  | orIxd | cpIxd => exact rowSelects_dd rfl rfl (.inl (by decide)) rfl
  | ldRIxd r | ldIxdR _ r => cases r <;> exact rowSelects_dd rfl rfl (.inl (by decide)) rfl
  | ldIyNn | ldIndNnIy | ldIyIndNn | incIyd | decIyd | ldIydN | addAIyd | adcAIyd | subIyd | sbcAIyd | andIyd | xorIyd
  | orIyd | cpIyd => exact rowSelects_fd rfl rfl (.inl (by decide)) rfl
  | ldRIyd r | ldIydR _ r => cases r <;> exact rowSelects_fd rfl rfl (.inl (by decide)) rfl
  | rlcIxd | rrcIxd | rlIxd | rrIxd | slaIxd | sraIxd | sllIxd | srlIxd => exact rowSelects_ddcb 0xFF#8 rfl rfl rfl
  | bitBIxd | resBIxd | setBIxd =>
    exact rowSelects_ddcb 0xC7#8 rfl rfl (by rw [opcode_and_z_mask]; rfl)
  | unknownDdcb => exact rowSelects_ddcb 0x00#8 rfl rfl (by rw [BitVec.and_zero]; rfl)
  | rlcIyd | rrcIyd | rlIyd | rrIyd | slaIyd | sraIyd | sllIyd | srlIyd => exact rowSelects_fdcb 0xFF#8 rfl rfl rfl
  | bitBIyd | resBIyd | setBIyd =>
    exact rowSelects_fdcb 0xC7#8 rfl rfl (by rw [opcode_and_z_mask]; rfl)
  | unknownFdcb => exact rowSelects_fdcb 0x00#8 rfl rfl (by rw [BitVec.and_zero]; rfl)
  | unknownEd op =>
    obtain ⟨hed, -, -⟩ := prefixedKey_and_mask op
    exact rowSelects_ed rfl rfl hed
  | unknownHalfIndexDd op | discardedPrefixDd op =>
    obtain ⟨-, hdd, -⟩ := prefixedKey_and_mask op
    exact rowSelects_dd rfl rfl (.inr rfl) hdd
  | unknownHalfIndexFd op | discardedPrefixFd op =>
    obtain ⟨-, -, hfd⟩ := prefixedKey_and_mask op
    exact rowSelects_fd rfl rfl (.inr rfl) hfd
  | rstP b | bitBIndHl b | resBIndHl b | setBIndHl b =>
    revert b
    decide
  | bitBR b r | resBR b r | setBR b r =>
    revert b
    cases r <;> decide
  | ldRR r r' => cases r <;> cases r' <;> rfl
  | addHlSs x | incSs x | decSs x | sbcHlSs x | adcHlSs x | popQq x | pushQq x | addIxPp x | addIyRr x | retCc x
  | incR x | decR x | ldRIndHl x | ldIndHlR x | addAR x | adcAR x | subR x | sbcAR x | andR x | xorR x
  | orR x | cpR x | inRPortC x | outPortCR x | rlcR x | rrcR x | rlR x | rrR x | slaR x | sraR x | sllR x | srlR x =>
    cases x <;> rfl
  | _ => rfl

end Sys2Proof
end

section
/-! PROOF. Encoding (30_encoding.md): encoding and decoding are inverse, encodings match the opcode table, and the class
rows. -/

namespace Sys2Proof

open Sys2Proof.Machine Sys2Proof.Rules

/-! ### Encoding and decoding are inverse -/

/-- Settles O3: bytes that begin with an instruction decode to it. -/
theorem decodeInvertsEncode : Obligations.DecodeInvertsEncode := by
  intro i rest hi
  have hheads : i.Heads (encode i ++ rest) := ⟨hi, List.prefix_append ..⟩
  simp only [decode, decode4_eq_iff.mpr hheads.fourBytes]
  simp [← encode_length i]

/-- Settles O4: any four bytes begin with the instruction they decode to. -/
theorem encodeInvertsDecode : Obligations.EncodeInvertsDecode := by
  intro b0 b1 b2 b3
  obtain ⟨hwf, hpre⟩ := decode4_heads b0 b1 b2 b3
  exact ⟨hwf, encode_length _ ▸ List.prefix_iff_eq_take.mp hpre⟩

/-- Settles O1: each word evaluates to its instruction. -/
theorem wordsOfTheSpecDecodeToTheirInstructions : Obligations.WordsOfTheSpecDecodeToTheirInstructions := by
  unfold Obligations.WordsOfTheSpecDecodeToTheirInstructions
  decide

/-- Settles O2: the rows select the keys (R109), and a length is the row's, one byte more for a discarded prefix. -/
theorem encodingsMatchTheOpcodeTable : Obligations.EncodingsMatchTheOpcodeTable := by
  intro i _
  refine ⟨rowSelects i, ?_⟩
  cases i <;> rfl

/-! ### The class rows -/

theorem Key.bits_toNat (d op : Byte) :
    (Key.ed op).bits.toNat = 0xED00 + op.toNat ∧ (Key.dd op).bits.toNat = 0xDD00 + op.toNat ∧
      (Key.fd op).bits.toNat = 0xFD00 + op.toNat ∧
      (Key.ddcb d op).bits.toNat = 0xDDCB0000 + 256 * d.toNat + op.toNat ∧
      (Key.fdcb d op).bits.toNat = 0xFDCB0000 + 256 * d.toNat + op.toNat := by
  simp only [Key.bits, toNat_append_eq_add, BitVec.toNat_ofNat]
  omega

/-- Bytes that begin with a class row decode to it exactly when the row is well formed, so the two are counted alike. -/
theorem countP_decode4_eq {b0 : Byte} {b1 b2 b3 : Nat → Byte} {i : Nat → Instr}
    (h : ∀ k, encode (i k) <+: [b0, b1 k, b2 k, b3 k]) (ks : List Nat) :
    (ks.countP fun k => decode4 b0 (b1 k) (b2 k) (b3 k) == i k) = ks.countP fun k => (i k).wellFormed := by
  refine List.countP_congr fun k _ => ?_
  rw [beq_iff_eq, decode4_eq_iff]
  exact and_iff_left (h k)

theorem countP_isUndefinedEd : ((List.range 256).countP fun k => Keys.isUndefinedEd (BitVec.ofNat 8 k)) = 198 := by
  decide +kernel

theorem countP_isHalfIndex : ((List.range 256).countP fun k => Keys.isHalfIndex (BitVec.ofNat 8 k)) = 46 := by
  decide +kernel

theorem countP_isDiscard : ((List.range 256).countP fun k => Keys.isDiscard (BitVec.ofNat 8 k)) = 170 := by
  decide +kernel

theorem countP_isUndefinedIndexedCb :
    ((List.range 256).countP fun k => Keys.isUndefinedIndexedCb (BitVec.ofNat 8 k)) = 224 := by
  decide +kernel

theorem isDiscard_of_isHalfIndex (op : Byte) (h : Keys.isHalfIndex op = true) : ¬Keys.isDiscard op = true := by
  revert op
  decide

/-- The default `DiscardSet` leaves the decoder's classes as they are (R97, R98(c)). -/
theorem default_classify {i : Instr} (hi : i.WellFormed) : Params.default.classify i = i := by
  cases i with
  | unknownHalfIndexDd op | unknownHalfIndexFd op => exact if_neg (isDiscard_of_isHalfIndex op hi)
  | discardedPrefixDd op | discardedPrefixFd op => exact if_pos hi
  | _ => rfl

/-- Settles O54: the meanings by evaluation, each count from the bytes for which the class is well formed. -/
theorem unknownKeysRaiseAndPrefixesAreDiscarded : Obligations.UnknownKeysRaiseAndPrefixesAreDiscarded := by
  refine ⟨fun s d op => ⟨rfl, rfl, rfl, rfl, rfl, rfl, rfl⟩, Key.bits_toNat, ?ed, ?halfDd, ?halfFd, ?discardDd,
    ?discardFd, ?ddcb, ?fdcb, fun i => default_classify, fun p op => ⟨rfl, rfl, rfl, rfl⟩⟩
  all_goals refine (countP_decode4_eq (fun k => ⟨_, rfl⟩) _).trans ?_
  case ed => exact countP_isUndefinedEd
  case halfDd | halfFd => exact countP_isHalfIndex
  case discardDd | discardFd => exact countP_isDiscard
  case ddcb | fdcb => exact countP_isUndefinedIndexedCb

end Sys2Proof
end

section
/-! PROOF. The 8-bit loads and the stores to memory (40_load8.md, and R167 to R170 of 41_load16.md): one lemma for each
shape of load; that an instruction's meaning is that load of its operand is by definition. -/

namespace Sys2Proof.Machine

open Sys2Proof Sys2Proof.Rules

/-! ### Loads into a register (R130 to R134, R141 to R143) -/

/-- A write of an 8-bit register and its T-states: no other register and no flag changes. -/
theorem State.setR8_addT_loadsReg (s : State) (r : Reg8) (v : Byte) (n : Nat) :
    LoadsReg s ((s.setR8 r v).addT n) r v n := by
  refine ⟨?_, fun q hq => ?_, Bank.set_f s.main r v, rfl⟩
  · exact (s.r8_setR8 r r v).trans (if_pos rfl)
  · exact (s.r8_setR8 r q v).trans (if_neg hq)

/-- A write of A is the write of the register of that name. -/
theorem State.setA_addT_loadsReg (s : State) (v : Byte) (n : Nat) : LoadsReg s ((s.setA v).addT n) .a v n :=
  s.setR8_addT_loadsReg .a v n

/-- Settles O24: five loads of any register and three of A, the operand read first. -/
theorem loadsPutTheOperandInTheRegister : Obligations.LoadsPutTheOperandInTheRegister := by
  intro s
  refine ⟨fun r r' => ⟨_, rfl, ?_⟩, fun r n => ⟨_, rfl, ?_⟩, fun r => ⟨_, rfl, ?_⟩, fun r d => ⟨_, rfl, ?_⟩,
    fun r d => ⟨_, rfl, ?_⟩, ⟨_, rfl, ?_⟩, ⟨_, rfl, ?_⟩, fun nn => ⟨_, rfl, ?_⟩⟩
  iterate 5 exact State.setR8_addT_loadsReg ..
  iterate 3 exact State.setA_addT_loadsReg ..

/-! ### Loads into memory (R135 to R140, R144 to R146, R167 to R170) -/

/-- A byte stored and its T-states: nothing else changes, and with the default `Mem` later reads see it. -/
theorem State.wr_addT_storesByte (s : State) (a : Word) (v : Byte) (n : Nat) :
    StoresByte s ((s.wr a v).addT n) a v n :=
  ⟨fun hf => ⟨State.rd_wr_same hf a v, fun _ => State.rd_wr_other hf a v⟩, rfl⟩

/-- A word stored, as later reads see it with the default `Mem`: low byte first (R63). -/
theorem State.wr16_holdsBytes (s : State) (a v : Word) :
    HoldsBytes s (s.wr16 a v) a (a + 1) (loByte v) (hiByte v) := by
  refine fun hf => ⟨?_, ?_, fun x ha hb => ?_⟩
  · rw [State.rd_wr16 hf, if_neg (Word.add_one_ne a).symm, if_pos rfl]
  · rw [State.rd_wr16 hf, if_pos rfl]
  · rw [State.rd_wr16 hf, if_neg hb, if_neg ha]

/-- A word stored and its T-states: nothing else changes. -/
theorem State.wr16_addT_storesWord (s : State) (a v : Word) (n : Nat) : StoresWord s ((s.wr16 a v).addT n) a v n :=
  ⟨s.wr16_holdsBytes a v, rfl⟩

/-- Settles O25: nine stores of a byte and four of a word. -/
theorem loadsPutTheOperandInMemory : Obligations.LoadsPutTheOperandInMemory := by
  intro s
  refine ⟨fun r => ⟨_, rfl, ?_⟩, fun n => ⟨_, rfl, ?_⟩, fun d r => ⟨_, rfl, ?_⟩, fun d r => ⟨_, rfl, ?_⟩,
    fun d n => ⟨_, rfl, ?_⟩, fun d n => ⟨_, rfl, ?_⟩, ⟨_, rfl, ?_⟩, ⟨_, rfl, ?_⟩, fun nn => ⟨_, rfl, ?_⟩,
    fun nn => ⟨_, rfl, ?_⟩, fun nn dd => ⟨_, rfl, ?_⟩, fun nn => ⟨_, rfl, ?_⟩, fun nn => ⟨_, rfl, ?_⟩⟩
  iterate 9 exact State.wr_addT_storesByte ..
  iterate 4 exact State.wr16_addT_storesWord ..

/-! ### I and R (R147 to R150) -/

/-- `loadIr` writes A and F only, S and Z from the value and P/V from IFF2. -/
theorem State.loadIr_spec (s : State) (v : Byte) (n : Nat) :
    OnlyAF s ((s.loadIr v).addT n) n ∧ ((s.loadIr v).addT n).main.a = v ∧
      ((s.loadIr v).addT n).main.f.s = v.getLsbD 7 ∧ ((s.loadIr v).addT n).main.f.z = decide (v.toNat = 0) ∧
      ((s.loadIr v).addT n).main.f.h = false ∧ ((s.loadIr v).addT n).main.f.p = s.iff2 ∧
      ((s.loadIr v).addT n).main.f.n = false ∧ ((s.loadIr v).addT n).main.f.c = s.main.f.c :=
  ⟨rfl, rfl, msb_byte v, beq_zero_byte v, rfl, rfl, rfl, rfl⟩

/-- Settles O26: LD A,I and LD A,R are one operation on I and on R; LD I,A and LD R,A are their rules word for word. -/
theorem interruptAndRefreshRegisterLoads : Obligations.InterruptAndRefreshRegisterLoads :=
  fun s => ⟨⟨_, rfl, s.loadIr_spec s.i _⟩, ⟨_, rfl, s.loadIr_spec s.r _⟩, rfl, rfl⟩

end Sys2Proof.Machine
end

section
/-! PROOF. The 16-bit loads into a pair, IX, IY or SP (41_load16.md). -/

namespace Sys2Proof.Machine

open Sys2Proof Sys2Proof.Rules

/-- A write of a pair and its T-states: no other pair, neither A nor F, and nothing else changes. -/
theorem State.setPair_addT_loadsPair (s : State) (p : Pair) (v : Word) (n : Nat) :
    LoadsPair s ((s.setPair p v).addT n) p v n := by
  obtain ⟨ha, hf⟩ := s.setPair_af p v
  refine ⟨?_, fun q hq => ?_, ha, hf, ?_⟩
  · exact (s.pair_setPair p p v).trans (if_pos rfl)
  · exact (s.pair_setPair p q v).trans (if_neg hq)
  · exact congrArg (·.addT n) (s.setPair_eq p v)

/-- A write of HL is the write of the pair of that name. -/
theorem State.setHl_addT_loadsPair (s : State) (v : Word) (n : Nat) : LoadsPair s ((s.setHl v).addT n) .hl v n :=
  s.setPair_addT_loadsPair .hl v n

/-- A write of SP is the write of the pair of that name. -/
theorem State.setSp_addT_loadsPair (s : State) (v : Word) (n : Nat) : LoadsPair s ((s.setSp v).addT n) .sp v n :=
  s.setPair_addT_loadsPair .sp v n

/-- Settles O27: two loads of any pair, one of HL and three of SP; `MemRead(a, 2)` is the rules' word, its low byte
read first, and the four loads of IX and IY are their rules word for word. -/
theorem sixteenBitLoadsIntoRegisters : Obligations.SixteenBitLoadsIntoRegisters := by
  intro s
  refine ⟨fun dd nn => ⟨_, rfl, ?_⟩, fun dd nn => ⟨_, rfl, ?_⟩, fun nn => ⟨_, rfl, ?_⟩, ⟨_, rfl, ?_⟩, ⟨_, rfl, ?_⟩,
    ⟨_, rfl, ?_⟩, fun nn => rfl, fun nn => rfl, fun nn => rfl, fun nn => rfl⟩
  iterate 2 exact State.setPair_addT_loadsPair ..
  · exact State.setHl_addT_loadsPair ..
  iterate 3 exact State.setSp_addT_loadsPair ..

end Sys2Proof.Machine
end

section
/-! SUPPORT. What a later read answers after one store or two, from the accesses of memory alone; and how one iteration
of a block instruction ends (R196). -/

namespace Sys2Proof.Machine

open Sys2Proof Sys2Proof.Rules

/-! ### Memory after reads and stores (R62, R65) -/

section

variable {s t : State} {reads : List Word} {a b : Word}

theorem holdsByte_of_mem {v : Byte} (h : t.mem = (readAll s.mem reads).write a v) : HoldsByte s t a v := by
  intro hf
  have hrd (x : Word) : t.rd x = if x = a then v else s.rd x := by
    rw [State.rd, h, readAll_of_isFlat hf, Mem.read_write hf, State.rd]
  exact ⟨(hrd a).trans (if_pos rfl), fun x hx => (hrd x).trans (if_neg hx)⟩

theorem holdsBytes_of_mem {lo hi : Byte} (hab : a ≠ b)
    (h : t.mem = ((readAll s.mem reads).write b hi).write a lo) : HoldsBytes s t a b lo hi := by
  intro hf
  have hf' : (s.mem.write b hi).isFlat = true := (s.mem.isFlat_write b hi).trans hf
  have hrd (x : Word) : t.rd x = if x = a then lo else if x = b then hi else s.rd x := by
    rw [State.rd, h, readAll_of_isFlat hf, Mem.read_write hf', Mem.read_write hf, State.rd]
  refine ⟨?_, ?_, fun x ha hb => ?_⟩
  · rw [hrd, if_pos rfl]
  · rw [hrd, if_neg hab.symm, if_pos rfl]
  · rw [hrd, if_neg ha, if_neg hb]

end

/-! ### The end of an iteration (R196) -/

/-- The end of one iteration of the block instruction `i`, which repeats or not, where it stops on `stop`: PC goes back
and the first cost is taken, unless a repeating form stops and takes its second; a single form takes its only cost. -/
def State.endBlock (u : State) (i : Instr) (repeats : Bool) (stop : Prop) [Decidable stop] : State :=
  { u with
    pc := if repeats = true ∧ ¬stop then u.pc - 2 else u.pc
    tStates := u.tStates + if repeats = true ∧ stop then u.costElse i else u.cost i }

section

variable (u : State) (i : Instr) (stop : Prop) [Decidable stop]

theorem State.addT_eq_endBlock {s : State} (h : u.params = s.params) :
    u.addT (s.cost i) = u.endBlock i false stop := by
  simp [State.endBlock, State.addT, State.cost, h]

theorem State.repeatIf_eq_endBlock {again : Bool} (h : again = !decide stop) :
    u.repeatIf i again = u.endBlock i true stop := by
  subst h
  by_cases hs : stop <;> simp [State.repeatIf_eq, State.endBlock, hs]

end

/-- The four forms of a block instruction, single and repeating, each going up or down, are one iteration `op` and its
end. -/
theorem exec_blockForm {up down upRepeat downRepeat i : Instr} {by_ : Word} {repeats : Bool} {s : State}
    {op : Word → State} {again : Bool} {stop : Prop} [Decidable stop]
    (h : (i, by_, repeats) ∈ [(up, 1, false), (down, 0xFFFF, false), (upRepeat, 1, true), (downRepeat, 0xFFFF, true)])
    (hparams : ∀ n, (op n).params = s.params) (hagain : again = !decide stop)
    (hup : exec up s = .next ((op 1).addT (s.cost up)))
    (hdown : exec down s = .next ((op 0xFFFF).addT (s.cost down)))
    (hupRepeat : exec upRepeat s = .next ((op 1).repeatIf upRepeat again))
    (hdownRepeat : exec downRepeat s = .next ((op 0xFFFF).repeatIf downRepeat again)) :
    exec i s = .next ((op by_).endBlock i repeats stop) := by
  simp only [List.mem_cons, Prod.mk.injEq, List.not_mem_nil, or_false] at h
  rcases h with ⟨rfl, rfl, rfl⟩ | ⟨rfl, rfl, rfl⟩ | ⟨rfl, rfl, rfl⟩ | ⟨rfl, rfl, rfl⟩
  · rw [hup, State.addT_eq_endBlock _ _ stop (hparams 1)]
  · rw [hdown, State.addT_eq_endBlock _ _ stop (hparams 0xFFFF)]
  · rw [hupRepeat, State.repeatIf_eq_endBlock _ _ _ hagain]
  · rw [hdownRepeat, State.repeatIf_eq_endBlock _ _ _ hagain]

end Sys2Proof.Machine
end

section
/-! PROOF. Exchange, block move and block search (42_exchange_block.md). -/

namespace Sys2Proof.Machine

open Sys2Proof Sys2Proof.Rules

/-! ### Exchanges (R190 to R195) -/

theorem Bank.setHl_wordOfBytes (b : Bank) (lo hi : Byte) :
    b.setHl (wordOfBytes lo hi) = { b with h := hi, l := lo } := by
  rw [Bank.setHl, hiByte_wordOfBytes, loByte_wordOfBytes]

/-- `EX (SP),x` in memory: nothing else changes, and the high byte is stored first. -/
theorem State.storeAtSp_eq (s : State) (v : Word) :
    s.storeAtSp v =
      { s with mem := ((s.afterRd16 s.sp).mem.write (s.sp + 1) (hiByte v)).write s.sp (loByte v) } := by
  simp only [State.storeAtSp, State.afterRd16, State.afterRd, State.wr]

/-- The word that `EX (SP),x` stores, whatever goes to the register that held it. -/
theorem holdsBytes_of_exIndSp {s t : State} {lo hi : Byte}
    (h : t.mem = ((s.afterRd16 s.sp).mem.write (s.sp + 1) hi).write s.sp lo) :
    HoldsBytes s t s.sp (s.sp + 1) lo hi :=
  holdsBytes_of_mem (reads := [s.sp, s.sp + 1]) (Word.add_one_ne s.sp).symm h

/-- EX (SP),HL in bytes: H and L are stored as they are, and take the bytes read. -/
theorem exec_exIndSpHl (s : State) :
    exec .exIndSpHl s =
      .next
        { s with
          mem := ((s.afterRd16 s.sp).mem.write (s.sp + 1) s.main.h).write s.sp s.main.l
          main := { s.main with h := (s.afterRd s.sp).rd (s.sp + 1), l := s.rd s.sp }
          tStates := s.tStates + s.cost .exIndSpHl } := by
  change Host.Outcome.next (((s.storeAtSp s.main.hl).setHl s.popped).addT (s.cost .exIndSpHl)) = _
  have hmain := s.main.setHl_wordOfBytes (s.rd s.sp) ((s.afterRd s.sp).rd (s.sp + 1))
  rw [← hmain, State.storeAtSp_eq, Bank.hl_eq, hiByte_wordOfBytes, loByte_wordOfBytes]
  rfl

/-- Settles O30: the register exchanges by definition, and the three of the word at SP by the bytes they store. -/
theorem exchangesSwapTheirOperands : Obligations.ExchangesSwapTheirOperands := by
  intro s
  refine ⟨⟨_, rfl, ?_, ?_, rfl⟩, rfl, rfl, ⟨_, exec_exIndSpHl s, ?_, rfl⟩, ⟨_, rfl, ?_, ?_⟩, ⟨_, rfl, ?_, ?_⟩⟩
  · exact s.main.setDe_de s.main.hl
  · exact (s.main.setDe s.main.hl).setHl_hl s.main.de
  · exact holdsBytes_of_exIndSp rfl
  iterate 2
    · exact holdsBytes_of_exIndSp rfl
    · rw [State.storeAtSp_eq]
      rfl

/-! ### Block moves (R196 to R200) -/

theorem State.moveBlock_pairs (s : State) (by_ : Word) :
    (s.moveBlock by_).main.hl = s.main.hl + by_ ∧ (s.moveBlock by_).main.de = s.main.de + by_ ∧
      (s.moveBlock by_).main.bc = s.main.bc - 1 :=
  ⟨s.main.setHl_hl (s.main.hl + by_), s.main.setDe_de (s.main.de + by_), s.main.setBc_bc (s.main.bc - 1)⟩

theorem State.moveBlock_p (s : State) (by_ : Word) : (s.moveBlock by_).main.f.p = decide (s.main.bc ≠ 1) :=
  sub_one_bne_zero_word s.main.bc

/-- Each block move is one move, which stops when BC was one. -/
theorem exec_blockMove {i : Instr} {by_ : Word} {repeats : Bool} (s : State)
    (h : (i, by_, repeats) ∈
      [(Instr.ldi, 1, false), (Instr.ldd, 0xFFFF, false), (Instr.ldir, 1, true), (Instr.lddr, 0xFFFF, true)]) :
    exec i s = .next ((s.moveBlock by_).endBlock i repeats (s.main.bc = 1)) := by
  have hagain : (s.main.bc - 1 != 0) = !decide (s.main.bc = 1) :=
    (sub_one_bne_zero_word s.main.bc).trans decide_not
  have hparams (v : Word) : (s.moveBlock v).params = s.params := congrArg Outside.params (s.outside_moveBlock v)
  exact exec_blockForm h hparams hagain rfl rfl rfl rfl

/-- Settles O31, from what one move does and how an iteration ends. -/
theorem blockMovesMoveOneByteAStep : Obligations.BlockMovesMoveOneByteAStep := by
  intro s i by_ repeats h
  obtain ⟨hhl, hde, hbc⟩ := s.moveBlock_pairs by_
  have hmem : HoldsByte s ((s.moveBlock by_).endBlock i repeats (s.main.bc = 1)) s.main.de (s.rd s.main.hl) :=
    holdsByte_of_mem (reads := [s.main.hl]) rfl
  exact ⟨_, exec_blockMove s h, hmem, hhl, hde, hbc, rfl, rfl, rfl, s.moveBlock_p by_, rfl, rfl, rfl, rfl⟩

/-! ### Block searches (R196, R201 to R204) -/

theorem State.compareBlock_pairs (s : State) (by_ : Word) :
    (s.compareBlock by_).main.hl = s.main.hl + by_ ∧ (s.compareBlock by_).main.bc = s.main.bc - 1 :=
  ⟨s.main.setHl_hl (s.main.hl + by_), s.main.setBc_bc (s.main.bc - 1)⟩

theorem State.compareBlock_p (s : State) (by_ : Word) : (s.compareBlock by_).main.f.p = decide (s.main.bc ≠ 1) :=
  sub_one_bne_zero_word s.main.bc

/-- Each block search is one comparison, which stops when BC was one or the bytes match. -/
theorem exec_blockSearch {i : Instr} {by_ : Word} {repeats : Bool} (s : State)
    (h : (i, by_, repeats) ∈
      [(Instr.cpi, 1, false), (Instr.cpd, 0xFFFF, false), (Instr.cpir, 1, true), (Instr.cpdr, 0xFFFF, true)]) :
    exec i s =
      .next ((s.compareBlock by_).endBlock i repeats (s.main.bc = 1 ∨ s.main.a = s.rd s.main.hl)) := by
  have hagain : (s.main.bc - 1 != 0 && s.main.a - s.indHl != 0) =
      !decide (s.main.bc = 1 ∨ s.main.a = s.rd s.main.hl) := by
    rw [sub_one_bne_zero_word, sub_bne_zero_byte, State.indHl]
    simp
  have hparams (v : Word) : (s.compareBlock v).params = s.params := congrArg Outside.params (s.outside_compareBlock v)
  exact exec_blockForm h hparams hagain rfl rfl rfl rfl

/-- Settles O32, from what one comparison does and how an iteration ends. -/
theorem blockSearchesCompareOneByteAStep : Obligations.BlockSearchesCompareOneByteAStep := by
  intro s i by_ repeats h
  obtain ⟨hhl, hbc⟩ := s.compareBlock_pairs by_
  refine ⟨_, _, _, exec_blockSearch s h, isSub8_sub8 s.main.f s.main.a (s.rd s.main.hl) false, rfl, rfl, rfl, rfl,
    s.compareBlock_p by_, rfl, hhl, hbc, ?_⟩
  simp only [State.endBlock, not_or]
  rfl

end Sys2Proof.Machine
end

section
/-! PROOF. Block input and output on a registered port (49_io.md, R422 to R425, R428 to R431). -/

namespace Sys2Proof.Machine

open Sys2Proof Sys2Proof.Rules

/-! ### Registered ports (R66) -/

/-- The rules' port read is the bus's, whatever the high byte presented (R67). -/
theorem State.portRead_eq_portIn (s : State) (hi lo : Byte) : s.portRead hi lo = portIn s lo := by
  simp only [State.portRead, portIn, List.contains_iff_mem]
  rfl

theorem State.portWrite_eq_portOut (s : State) (hi lo v : Byte) : s.portWrite hi lo v = portOut s lo v := by
  simp only [State.portWrite, portOut, List.contains_iff_mem]

theorem State.inThen_of_portIn {s u : State} {lo v : Byte} (h : portIn s lo = some (v, u)) (hi : Byte)
    (k : Byte → State → State) : s.inThen hi lo k = .next (k v u) := by
  rw [State.inThen, State.portRead_eq_portIn, h]

theorem State.outThen_of_portOut {s u : State} {lo v : Byte} (h : portOut s lo v = some u) (hi : Byte)
    (k : State → State) : s.outThen hi lo v k = .next (k u) := by
  rw [State.outThen, State.portWrite_eq_portOut, h]

/-- A port read changes the VDP and the draw counter only. -/
theorem portIn_frame {s u : State} {lo v : Byte} (h : portIn s lo = some (v, u)) :
    ∃ w d, u = { s with vdp := w, draws := d } := by
  unfold portIn at h
  split_ifs at h <;> cases h <;> exact ⟨_, _, rfl⟩

/-- A port write changes the VDP only, and leaves it the same whatever B holds. -/
theorem portOut_frame {s u : State} {lo v : Byte} (h : portOut s lo v = some u) (b : Byte) :
    ∃ w, u = { s with vdp := w } ∧ portOut (s.setB b) lo v = some { s.setB b with vdp := w } := by
  unfold portOut at h ⊢
  rw [State.setB_params, State.setB_vdp]
  split_ifs at h ⊢ <;> cases h <;> exact ⟨_, rfl, rfl⟩

/-! ### Block input (R422 to R425) -/

theorem sub_one_beq_zero_byte (v : Byte) : (v - 1 == 0) = decide (v = 1) := by
  revert v
  decide

theorem State.inBlock_registers (s : State) (by_ : Word) (v : Byte) :
    (s.inBlock by_ v).main.b = s.main.b - 1 ∧ (s.inBlock by_ v).main.hl = s.main.hl + by_ ∧
      (s.inBlock by_ v).main.f.z = decide (s.main.b = 1) :=
  ⟨rfl, s.main.setHl_hl (s.main.hl + by_), sub_one_beq_zero_byte s.main.b⟩

/-- Each block input from a registered port stores the byte read, and stops when B was one. -/
theorem exec_blockIn {i : Instr} {by_ : Word} {repeats : Bool} {s : State} {v : Byte} {w : Vdp} {d : Nat}
    (h : (i, by_, repeats) ∈
      [(Instr.ini, 1, false), (Instr.ind, 0xFFFF, false), (Instr.inir, 1, true), (Instr.indr, 0xFFFF, true)])
    (hport : portIn s s.main.c = some (v, { s with vdp := w, draws := d })) :
    exec i s =
      .next ((State.inBlock { s with vdp := w, draws := d } by_ v).endBlock i repeats (s.main.b = 1)) := by
  have hagain : (s.main.b - 1 != 0) = !decide (s.main.b = 1) := (sub_one_bne_zero_byte s.main.b).trans decide_not
  have hparams (n : Word) : (State.inBlock { s with vdp := w, draws := d } n v).params = s.params :=
    congrArg Outside.params (State.outside_inBlock _ n v)
  refine exec_blockForm h hparams hagain ?_ ?_ ?_ ?_
  all_goals exact State.inThen_of_portIn hport s.main.b _

/-! ### Block output (R428 to R431) -/

theorem State.outBlock_registers (s : State) (by_ : Word) :
    (s.outBlock by_).main.b = s.main.b ∧ (s.outBlock by_).main.hl = s.main.hl + by_ ∧
      (s.outBlock by_).main.f.z = (s.main.b == 0) :=
  ⟨rfl, s.main.setHl_hl (s.main.hl + by_), rfl⟩

/-- Each block output to a registered port counts B down first, and stops when B was one. -/
theorem exec_blockOut {i : Instr} {by_ : Word} {repeats : Bool} {s u : State}
    (h : (i, by_, repeats) ∈
      [(Instr.outi, 1, false), (Instr.outd, 0xFFFF, false), (Instr.otir, 1, true), (Instr.otdr, 0xFFFF, true)])
    (hport : portOut (s.afterIndHl.setB (s.main.b - 1)) s.main.c (s.rd s.main.hl) = some u)
    (hu : u.params = s.params) : exec i s = .next ((u.outBlock by_).endBlock i repeats (s.main.b = 1)) := by
  have hagain : (s.main.b - 1 != 0) = !decide (s.main.b = 1) := (sub_one_bne_zero_byte s.main.b).trans decide_not
  have hparams (n : Word) : (u.outBlock n).params = s.params :=
    (congrArg Outside.params (u.outside_outBlock n)).trans hu
  refine exec_blockForm h hparams hagain ?_ ?_ ?_ ?_
  all_goals exact State.outThen_of_portOut hport (s.main.b - 1) _

/-- Settles O52, from what a port operation leaves, what one transfer does and how an iteration ends. -/
theorem blockIoTransfersOneByteAStep : Obligations.BlockIoTransfersOneByteAStep := by
  refine ⟨fun s u i by_ repeats v h hport => ?_, fun s u i by_ repeats h hport => ?_⟩
  · obtain ⟨w, d, rfl⟩ := portIn_frame hport
    obtain ⟨hb, hhl, hz⟩ := State.inBlock_registers { s with vdp := w, draws := d } by_ v
    refine ⟨_, exec_blockIn h hport, ?_, hb, hhl, hz, rfl, rfl, rfl⟩
    exact holdsByte_of_mem (reads := []) rfl
  · obtain ⟨w, rfl, hport'⟩ := portOut_frame hport (s.main.b - 1)
    obtain ⟨hb, hhl, hz⟩ := State.outBlock_registers { (s.afterRd s.main.hl).setB (s.main.b - 1) with vdp := w } by_
    exact ⟨_, exec_blockOut h hport' rfl, hb, hhl, hz.trans (sub_one_beq_zero_byte s.main.b), rfl, rfl, rfl⟩

end Sys2Proof.Machine
end

section
/-! PROOF. INC and DEC of a byte, in a register and in memory (R250, R258 to R265). -/

namespace Sys2Proof.Machine

open Sys2Proof Sys2Proof.Rules

/-! ### A byte and F written together -/

/-- A write of an 8-bit register, of the flags and of the T-states: no other register and nothing else changes. -/
theorem State.setR8_writeFlags_addT_onlyRegF (s : State) (r : Reg8) (v : Byte) (f : Flags) (n : Nat) :
    OnlyRegF s (((s.setR8 r v).writeFlags f).addT n) r v n := by
  have hregs (q : Reg8) : (((s.setR8 r v).writeFlags f).addT n).r8 q = (s.setR8 r v).r8 q := by cases q <;> rfl
  refine ⟨?_, fun q hq => ?_, rfl⟩
  · rw [hregs, State.r8_setR8, if_pos rfl]
  · rw [hregs, State.r8_setR8, if_neg hq]

/-- A byte stored, the flags written and the T-states: nothing else changes, and with the default `Mem` later reads see
it. -/
theorem State.wr_writeFlags_addT_onlyByteF (s : State) (a : Word) (v : Byte) (f : Flags) (n : Nat) :
    OnlyByteF s (((s.wr a v).writeFlags f).addT n) a v n :=
  ⟨holdsByte_of_mem (reads := []) rfl, rfl⟩

/-! ### The flag rules of INC and DEC are those of the model -/

theorem beq_byte_eq_decide_toNat (v w : Byte) : (v == w) = decide (v.toNat = w.toNat) := by
  rw [beq_eq_decide, decide_eq_decide, BitVec.toNat_inj]

theorem isInc8_inc8 (f : Flags) (v : Byte) : IsInc8 v (inc8 v) f (inc8Flags f v) :=
  ⟨inc8_toNat v, msb_byte _, beq_zero_byte _, rfl, beq_byte_eq_decide_toNat v 0x7F, rfl, rfl⟩

theorem isDec8_dec8 (f : Flags) (v : Byte) : IsDec8 v (dec8 v) f (dec8Flags f v) :=
  ⟨dec8_toNat v, msb_byte _, beq_zero_byte _, rfl, beq_byte_eq_decide_toNat v 0x80, rfl, rfl⟩

/-! ### INC and DEC of the byte at an address -/

/-- INC of the byte at `ea` and its T-states. -/
theorem State.incAt_addT_spec (s : State) (ea : Word) (n : Nat) :
    OnlyByteF (s.afterRd ea) ((s.incAt ea).addT n) ea (inc8 (s.rd ea)) n ∧
      IsInc8 (s.rd ea) (inc8 (s.rd ea)) s.main.f ((s.incAt ea).addT n).main.f :=
  ⟨(s.afterRd ea).wr_writeFlags_addT_onlyByteF .., isInc8_inc8 s.main.f (s.rd ea)⟩

/-- DEC of the byte at `ea` and its T-states. -/
theorem State.decAt_addT_spec (s : State) (ea : Word) (n : Nat) :
    OnlyByteF (s.afterRd ea) ((s.decAt ea).addT n) ea (dec8 (s.rd ea)) n ∧
      IsDec8 (s.rd ea) (dec8 (s.rd ea)) s.main.f ((s.decAt ea).addT n).main.f :=
  ⟨(s.afterRd ea).wr_writeFlags_addT_onlyByteF .., isDec8_dec8 s.main.f (s.rd ea)⟩

/-- Settles O35: `inc8` and `dec8` of a register, and of the byte at HL, at IX+d and at IY+d. -/
theorem incrementsMeetInc8AndDec8 : Obligations.IncrementsMeetInc8AndDec8 := fun s =>
  ⟨fun r => ⟨_, _, rfl, s.setR8_writeFlags_addT_onlyRegF .., isInc8_inc8 s.main.f (s.r8 r)⟩,
    fun r => ⟨_, _, rfl, s.setR8_writeFlags_addT_onlyRegF .., isDec8_dec8 s.main.f (s.r8 r)⟩,
    ⟨_, _, rfl, s.incAt_addT_spec s.main.hl _⟩,
    ⟨_, _, rfl, s.decAt_addT_spec s.main.hl _⟩,
    fun d => ⟨_, _, rfl, s.incAt_addT_spec (s.ixd d) _⟩,
    fun d => ⟨_, _, rfl, s.decAt_addT_spec (s.ixd d) _⟩,
    fun d => ⟨_, _, rfl, s.incAt_addT_spec (s.iyd d) _⟩,
    fun d => ⟨_, _, rfl, s.decAt_addT_spec (s.iyd d) _⟩⟩

end Sys2Proof.Machine
end

section
/-! PROOF. General-purpose arithmetic and CPU control (44_general_control.md). -/

namespace Sys2Proof.Machine

open Sys2Proof Sys2Proof.Rules

/-! ### DAA (R280) -/

/-- With N clear DAA adds its correction (R280). -/
theorem daa_toNat_of_not_n {f : Flags} (hn : f.n = false) (a : Byte) :
    (daa a f).toNat = (a.toNat + (daaCorrection a f).toNat) % 256 := by
  rw [daa_toNat, hn, if_neg Bool.false_ne_true]

/-- With N set DAA subtracts its correction (R280). -/
theorem daa_toNat_of_n {f : Flags} (hn : f.n = true) (a : Byte) :
    ((daa a f).toNat : Int) = ((a.toNat : Int) - (daaCorrection a f).toNat) % 256 := by
  rw [daa_toNat, if_pos hn]
  omega

/-- Settles O38: the correction as a number, added or subtracted as N says. -/
theorem daaFollowsItsAlgorithm : Obligations.DaaFollowsItsAlgorithm := by
  refine ⟨rfl, fun s => ⟨_, rfl, rfl, fun hn => ⟨?_, if_neg (by simp [hn])⟩, fun hn => ⟨?_, if_pos hn⟩, rfl, rfl,
    msb_byte _, beq_zero_byte _, parity_eq_evenParity _, fun hc => ?_⟩⟩
  · rw [← daaCorrection_toNat]
    exact daa_toNat_of_not_n hn s.main.a
  · rw [← daaCorrection_toNat]
    exact daa_toNat_of_n hn s.main.a
  · exact congrArg (s.tStates + ·) (State.cost_of_default hc .daa).1

/-! ### DAA after an addition or a subtraction of BCD bytes (S3) -/

/-- Settles O39: DAA's algorithm on what the adder and the subtracter leave; H and C are their digits' carries and
borrows, and each way of correcting a digit is a case of its own. -/
theorem daaCorrectsBcdArithmetic : Obligations.DaaCorrectsBcdArithmetic := by
  intro s n ha hn
  obtain ⟨hadd, -, hsub, -⟩ := addersMeetAdd8AndSub8
  obtain ⟨-, haddN, -⟩ := hadd s
  obtain ⟨-, hsubN, -⟩ := hsub s
  obtain ⟨-, hdaa⟩ := daaFollowsItsAlgorithm
  simp only [IsBcd, bcdValue] at ha hn ⊢
  constructor
  · obtain ⟨t, et, -, hr, -, -, hh, -, hN, hc⟩ := haddN n
    obtain ⟨u, eu, -, hu, -, huc, -⟩ := hdaa t
    obtain ⟨hur, -⟩ := hu hN
    refine ⟨t, u, et, eu, ?_⟩
    simp only [hh, hc, huc, num, Bool.or_eq_true, decide_eq_true_eq, Bool.false_eq_true, if_false] at hr hur ⊢
    split_ifs at hur ⊢ <;> omega
  · obtain ⟨t, et, -, hr, -, -, hh, -, hN, hc⟩ := hsubN n
    obtain ⟨u, eu, -, -, hu, huc, -⟩ := hdaa t
    obtain ⟨hur, -⟩ := hu hN
    refine ⟨t, u, et, eu, ?_⟩
    simp only [hh, hc, huc, num, Bool.or_eq_true, decide_eq_true_eq, Bool.false_eq_true, if_false] at hr hur ⊢
    split_ifs at hur ⊢ <;> omega

/-! ### EI (R289) -/

/-- The CPU runs: it accepts no interrupt and is not halted, so that its step is one instruction (R441). -/
def State.Runs (s : State) : Prop := s.nmiPending = false ∧ ¬s.accepts ∧ s.halted = false

theorem cpuStepWith_of_runs {s : State} (h : s.Runs) (ex : Instr → State → Out) :
    cpuStepWith ex s = Out.mapNext State.refreshR (ex s.fetchInstr (s.skip s.fetchInstr.size)) := by
  obtain ⟨hn, ha, hh⟩ := h
  rcases cpuStepWith_cases ex s with ⟨hn', -⟩ | ⟨-, ha', -⟩ | ⟨-, -, hh', -⟩ | ⟨-, -, -, e⟩
  · exact nomatch hn.symm.trans hn'
  · exact absurd ha' ha
  · exact nomatch hh.symm.trans hh'
  · exact e

/-- EI's nested step from a running machine: the instruction at PC, after EI's own T-states. -/
theorem nestedStep_of_runs {s : State} (h : s.Runs) (n : Nat) :
    cpuStepFuel (n + 1) (s.addT (s.cost .ei)) =
      Out.mapNext State.refreshR
        (runInstr (cpuStepFuel n) s.fetchInstr ((s.skip s.fetchInstr.size).addT (s.cost .ei))) :=
  cpuStepWith_of_runs (s := s.addT (s.cost .ei)) h _

/-- The state in which a second EI begins: the first one's T-states taken, the second one fetched. -/
def State.pastEi (s : State) : State := (s.skip 1).addT (s.cost .ei)

theorem State.Runs.pastEi {s : State} (h : s.Runs) : s.pastEi.Runs := h

theorem State.pastEi_skip (s : State) (m : Nat) : s.pastEi.skip m = (s.skip (m + 1)).addT (s.cost .ei) := by
  rw [Nat.add_comm, ← State.skip_skip]
  rfl

theorem State.pastEi_skip_fetchInstr (s : State) (m : Nat) :
    (s.pastEi.skip m).fetchInstr = (s.skip (m + 1)).fetchInstr := by
  rw [State.pastEi_skip]
  rfl

/-- EI's nested step where another EI is at PC: that EI, nested once more. -/
theorem nestedStep_of_fetch_ei {s : State} (h : s.Runs) (hi : s.fetchInstr = .ei) (n : Nat) :
    cpuStepFuel (n + 1) (s.addT (s.cost .ei)) =
      Out.mapNext State.refreshR (eiWith (cpuStepFuel n) s.pastEi) := by
  rw [nestedStep_of_runs h, hi]
  rfl

/-- What EI does after its nested step: it sets both flip-flops, unless the machine holds a fault (R289). -/
def State.commitEi (u : State) : State :=
  if u.fault.isSome then u else { u with iff1 := true, iff2 := true }

theorem eiWith_of_next {nested : State → Out} {s u : State} (h : nested (s.addT (s.cost .ei)) = .next u) :
    eiWith nested s = .next u.commitEi := by
  rw [eiWith, h]
  exact (apply_ite Host.Outcome.next ..).symm

/-- The state `u` but for R and the draw counter. -/
def State.withR (u : State) (r : Byte) (d : Nat) : State := { u with r := r, draws := d }

theorem State.withR_withR (u : State) (r r' : Byte) (d d' : Nat) : (u.withR r d).withR r' d' = u.withR r' d' := rfl

theorem State.commitEi_withR (u : State) (r : Byte) (d : Nat) : (u.withR r d).commitEi = u.commitEi.withR r d := by
  cases hf : u.fault <;> simp [State.commitEi, State.withR, hf]

theorem State.commitEi_commitEi (u : State) : u.commitEi.commitEi = u.commitEi := by
  cases hf : u.fault <;> simp [State.commitEi, hf]

theorem State.refreshR_commitEi (u : State) : u.refreshR.commitEi = u.commitEi.withR u.refreshR.r u.refreshR.draws :=
  u.commitEi_withR u.refreshR.r u.refreshR.draws

theorem State.addT_addT (s : State) (n k : Nat) : (s.addT n).addT k = s.addT (n + k) := by
  simp only [State.addT, Nat.add_assoc]

/-- EI with `k` further EIs after it, then the instruction `i`: that instruction's state, committed, and R refreshed.
By induction over the further EIs, each of which takes one unit of the nesting bound. -/
theorem eiWith_of_run {i : Instr} {u : State} (hi : i ≠ .ei) {k n : Nat} {s : State} (hkn : k < n) (hruns : s.Runs)
    (hei : ∀ m, m < k → (s.skip m).fetchInstr = .ei) (hk : (s.skip k).fetchInstr = i)
    (hu : exec i ((s.skip (k + i.size)).addT (s.cost .ei * (k + 1))) = .next u) :
    ∃ r d, r.getLsbD 7 = u.r.getLsbD 7 ∧ eiWith (cpuStepFuel n) s = .next (u.commitEi.withR r d) := by
  induction k generalizing n s with
  | zero =>
    obtain ⟨n, rfl⟩ := Nat.exists_eq_add_one.mpr hkn
    rw [State.skip_zero] at hk
    rw [Nat.zero_add, Nat.zero_add, Nat.mul_one] at hu
    have hnested : cpuStepFuel (n + 1) (s.addT (s.cost .ei)) = .next u.refreshR := by
      rw [nestedStep_of_runs hruns, hk, runInstr_of_ne_ei _ hi, hu, Out.mapNext]
    refine ⟨_, u.refreshR.draws, u.refreshR_bit7, ?_⟩
    rw [eiWith_of_next hnested, State.refreshR_commitEi]
  | succ k ih =>
    obtain ⟨n, rfl⟩ := Nat.exists_eq_add_one.mpr (Nat.zero_lt_of_lt hkn)
    have hfetch : s.fetchInstr = .ei := s.skip_zero ▸ hei 0 k.succ_pos
    have hu' : exec i ((s.pastEi.skip (k + i.size)).addT (s.pastEi.cost .ei * (k + 1))) = .next u := by
      have hskip : k + 1 + i.size = k + i.size + 1 := by omega
      have hcost : s.cost .ei * (k + 1 + 1) = s.cost .ei + s.cost .ei * (k + 1) := by ring
      rw [hskip, hcost, ← State.addT_addT, ← State.pastEi_skip] at hu
      exact hu
    obtain ⟨r, d, hr, e⟩ := ih (Nat.lt_of_succ_lt_succ hkn) hruns.pastEi
      (fun m hm => (s.pastEi_skip_fetchInstr m).trans (hei (m + 1) (Nat.succ_lt_succ hm)))
      ((s.pastEi_skip_fetchInstr k).trans hk) hu'
    have hnested : cpuStepFuel (n + 1) (s.addT (s.cost .ei)) = .next (u.commitEi.withR r d).refreshR := by
      rw [nestedStep_of_fetch_ei hruns hfetch, e, Out.mapNext]
    refine ⟨_, (u.commitEi.withR r d).refreshR.draws, (u.commitEi.withR r d).refreshR_bit7.trans hr, ?_⟩
    rw [eiWith_of_next hnested, State.refreshR_commitEi, State.commitEi_withR, State.commitEi_commitEi,
      State.withR_withR]

/-- Settles O41: the instruction after the EIs answers a next state, which EI's step commits. -/
theorem eiRunsOneMoreInstructionThenEnables : Obligations.EiRunsOneMoreInstructionThenEnables := by
  intro s k hk hn ha hh hei hi i
  obtain ⟨u, hu, -⟩ := exec_accesses hi ((s.skip (k + i.size)).addT (s.cost .ei * (k + 1)))
  obtain ⟨r, d, hr, e⟩ := eiWith_of_run hi hk ⟨hn, ha, hh⟩ hei rfl hu
  refine ⟨u, _, hu, e, hr, fun hf => ?_, fun hf => ?_⟩
  · rw [State.commitEi, hf]
    rfl
  · rw [State.commitEi, if_pos (Option.isSome_iff_ne_none.mpr hf)]
    rfl

/-! ### An endless run of EIs (R289, U12) -/

/-- Where nothing but EI is fetched, EI ends at the bound, however deep it may nest. -/
theorem eiWith_of_endless_ei :
    ∀ (n : Nat) {s : State}, s.Runs → (∀ m, (s.skip m).fetchInstr = .ei) →
      eiWith (cpuStepFuel n) s = .fault .eiRunaway
  | 0, _, _, _ => rfl
  | n + 1, s, hruns, hei => by
    have hfetch : s.fetchInstr = .ei := s.skip_zero ▸ hei 0
    have e := eiWith_of_endless_ei n hruns.pastEi fun m => (s.pastEi_skip_fetchInstr m).trans (hei (m + 1))
    rw [eiWith, nestedStep_of_fetch_ei hruns hfetch, e]
    rfl

/-- A flat memory that holds 0xFB everywhere holds EI at PC. -/
theorem fetchInstr_of_all_ei {s : State} (hf : s.mem.isFlat = true) (h : ∀ x, s.rd x = 0xFB) :
    s.fetchInstr = .ei := by
  simp only [State.fetchInstr, State.fetchByte_of_isFlat hf, h]
  rfl

/-- Settles O42, by induction on the nesting bound. -/
theorem endlessEiIsAStuckMachine : Obligations.EndlessEiIsAStuckMachine := by
  refine ⟨fun s hei hn ha hh => eiWith_of_endless_ei Config.eiNestingBound ⟨hn, ha, hh⟩ hei, fun s hf h m => ?_⟩
  refine fetchInstr_of_all_ei (by simp [hf]) fun x => ?_
  rw [State.rd_of_mem (s := s) (Mem.afterFetches_of_isFlat hf s.pc m), h]

/-! ### The other control instructions -/

/-- The complement of a byte (R281). -/
theorem xor_0xFF_toNat (v : Byte) : (v ^^^ 0xFF#8).toNat = 255 - v.toNat := by
  revert v
  decide

/-- Settles O40: CPL, CCF and SCF flag by flag, and the others word for word. -/
theorem controlInstructionsDoWhatTheyName : Obligations.ControlInstructionsDoWhatTheyName := fun s =>
  ⟨⟨_, rfl, rfl, xor_0xFF_toNat s.main.a, rfl, rfl, rfl, rfl, rfl, rfl⟩,
    ⟨_, rfl, rfl, rfl, rfl, rfl, rfl, rfl, rfl⟩,
    ⟨_, rfl, rfl, rfl, rfl, rfl, rfl, rfl, rfl⟩,
    rfl, rfl, rfl, rfl, rfl, rfl⟩

end Sys2Proof.Machine
end

section
/-! PROOF. 16-bit ADD, ADC, SBC, INC and DEC (45_alu16.md). -/

namespace Sys2Proof.Machine

open Sys2Proof Sys2Proof.Rules

/-! ### The flag rules of the 16-bit adders are those of the model (R300 to R302) -/

theorem isAdd16_add16 (f : Flags) (a b : Word) : IsAdd16 a b (add16 a b false) f (add16Flags f a b) :=
  ⟨add16_toNat a b false, rfl, rfl, rfl, rfl, rfl, rfl⟩

theorem isAdc16_add16 (f : Flags) (a b : Word) (c : Bool) : IsAdc16 a b c (add16 a b c) (adc16Flags f a b c) := by
  refine ⟨add16_toNat a b c, msb_word _, beq_zero_word _, rfl, ?_, rfl, rfl⟩
  simp only [adc16Flags, msb_word, beq_and_bne_eq_decide]

theorem isSbc16_sub16 (f : Flags) (a b : Word) (c : Bool) : IsSbc16 a b c (sub16 a b c) (sbc16Flags f a b c) := by
  refine ⟨sub16_toNat a b c, msb_word _, beq_zero_word _, ?_, ?_, rfl, ?_⟩
  · exact decide_eq_decide.mpr (by rw [num_eq_bit]; omega)
  · simp only [sbc16Flags, msb_word, bne_and_bne_eq_decide]
  · exact decide_eq_decide.mpr (by rw [num_eq_bit]; omega)

/-! ### HL and F written together -/

/-- A write of the flags and of the T-states leaves the word just written to HL. -/
theorem State.setHl_writeFlags_addT_hl (s : State) (v : Word) (f : Flags) (n : Nat) :
    (((s.setHl v).writeFlags f).addT n).main.hl = v :=
  s.main.setHl_hl v

/-- Settles O43: the adders by their arithmetic, INC and DEC of a pair as its write, and those of IX and IY word for
word. -/
theorem sixteenBitArithmetic : Obligations.SixteenBitArithmetic := by
  intro s
  refine ⟨fun ss => ⟨_, rfl, ?_, rfl⟩, fun ss => ⟨_, rfl, ?_, rfl⟩, fun ss => ⟨_, rfl, ?_, rfl⟩,
    fun pp => ⟨_, rfl, ?_, rfl⟩, fun rr => ⟨_, rfl, ?_, rfl⟩, fun ss => ⟨_, rfl, ?_⟩, fun ss => ⟨_, rfl, ?_⟩,
    rfl, rfl, rfl, rfl⟩
  · rw [State.setHl_writeFlags_addT_hl]
    exact isAdd16_add16 s.main.f s.main.hl (s.pair ss)
  · rw [State.setHl_writeFlags_addT_hl]
    exact isAdc16_add16 s.main.f s.main.hl (s.pair ss) s.main.f.c
  · rw [State.setHl_writeFlags_addT_hl]
    exact isSbc16_sub16 s.main.f s.main.hl (s.pair ss) s.main.f.c
  · exact isAdd16_add16 s.main.f s.ix (s.ixPair pp)
  · exact isAdd16_add16 s.main.f s.iy (s.iyPair rr)
  · exact s.setPair_addT_loadsPair ..
  · exact s.setPair_addT_loadsPair ..

end Sys2Proof.Machine
end

section
/-! PROOF. Rotates and shifts, and the digit rotates RLD and RRD (46_rotate_shift.md). -/

namespace Sys2Proof.Machine

open Sys2Proof Sys2Proof.Rules

/-! ### The `rot8` table of the obligations is that of the model (R358) -/

theorem rotResult_eq (k : RotOp) (v : Byte) (c : Bool) :
    rotResult k v.toNat c = ((rot8 k v c).toNat, rot8Carry k v) := by
  rw [rot8_toNat, rot8Carry_eq]
  cases k <;> rfl

theorem isRot8_rot8 (k : RotOp) (f : Flags) (v : Byte) : IsRot8 k v (rot8 k v f.c) f (rot8Flags f k v) := by
  rw [IsRot8, rotResult_eq]
  exact ⟨rfl, msb_byte _, beq_zero_byte _, parity_eq_evenParity _, rfl, rfl, rfl⟩

/-! ### The operand forms -/

/-- Rotate or shift of a register and its T-states. -/
theorem State.rotR_addT_spec (s : State) (k : RotOp) (r : Reg8) (n : Nat) :
    OnlyRegF s ((s.rotR k r).addT n) r (rot8 k (s.r8 r) s.main.f.c) n ∧
      IsRot8 k (s.r8 r) (rot8 k (s.r8 r) s.main.f.c) s.main.f ((s.rotR k r).addT n).main.f :=
  ⟨s.setR8_writeFlags_addT_onlyRegF .., isRot8_rot8 k s.main.f (s.r8 r)⟩

/-- Rotate or shift of the byte at `ea` and its T-states. -/
theorem State.rotAt_addT_spec (s : State) (k : RotOp) (ea : Word) (n : Nat) :
    OnlyByteF (s.afterRd ea) ((s.rotAt k ea).addT n) ea (rot8 k (s.rd ea) s.main.f.c) n ∧
      IsRot8 k (s.rd ea) (rot8 k (s.rd ea) s.main.f.c) s.main.f ((s.rotAt k ea).addT n).main.f :=
  ⟨(s.afterRd ea).wr_writeFlags_addT_onlyByteF .., isRot8_rot8 k s.main.f (s.rd ea)⟩

/-- An instruction whose four forms are `rotR` and `rotAt` of the row `k` rotates by `k`. That each form's meaning is
so is by definition. -/
theorem rotatesBy_of_exec {k : RotOp} {r : Reg8 → Instr} {hl : Instr} {ix iy : Byte → Instr}
    (hr : ∀ s q, exec (r q) s = .next ((s.rotR k q).addT (s.cost (r q))) := by intros; rfl)
    (hhl : ∀ s, exec hl s = .next ((s.rotAt k s.main.hl).addT (s.cost hl)) := by intros; rfl)
    (hix : ∀ s d, exec (ix d) s = .next ((s.rotAt k (s.ixd d)).addT (s.cost (ix d))) := by intros; rfl)
    (hiy : ∀ s d, exec (iy d) s = .next ((s.rotAt k (s.iyd d)).addT (s.cost (iy d))) := by intros; rfl) :
    RotatesBy k r hl ix iy :=
  fun s =>
    ⟨fun q => ⟨_, _, hr s q, s.rotR_addT_spec k q _⟩, ⟨_, _, hhl s, s.rotAt_addT_spec k s.main.hl _⟩,
      fun d => ⟨_, _, hix s d, s.rotAt_addT_spec k (s.ixd d) _⟩,
      fun d => ⟨_, _, hiy s d, s.rotAt_addT_spec k (s.iyd d) _⟩⟩

/-- An instruction that is `rotA` of the row `k` rotates A by `k`. -/
theorem rotatesA_of_exec {k : RotOp} {i : Instr}
    (h : ∀ s, exec i s = .next ((s.rotA k).addT (s.cost i)) := by intros; rfl) : RotatesA k i := by
  intro s
  rw [rotResult_eq]
  exact ⟨_, h s, rfl, rfl, rfl, rfl, rfl, rfl, rfl, rfl⟩

/-- Settles O44: one rotate or shift behind each instruction's four forms, and one rotate of A behind each accumulator
form. -/
theorem rotatesFollowTheRot8Table : Obligations.RotatesFollowTheRot8Table :=
  ⟨rotatesBy_of_exec, rotatesBy_of_exec, rotatesBy_of_exec, rotatesBy_of_exec, rotatesBy_of_exec, rotatesBy_of_exec,
    rotatesBy_of_exec, rotatesBy_of_exec, rotatesA_of_exec, rotatesA_of_exec, rotatesA_of_exec, rotatesA_of_exec⟩

/-! ### RLD and RRD (R356, R357) -/

/-- A byte put together from two nibbles. -/
theorem toNat_append_nibbles (hi lo : BitVec 4) : (hi ++ lo : Byte).toNat = 16 * hi.toNat + lo.toNat := by
  rw [toNat_append_eq_add]
  omega

theorem highNibble_toNat (v : Byte) : (v.extractLsb' 4 4).toNat = v.toNat / 16 := by
  rw [BitVec.extractLsb'_toNat, Nat.shiftRight_eq_div_pow]
  omega

theorem lowNibble_toNat (v : Byte) : (v.extractLsb' 0 4).toNat = v.toNat % 16 := BitVec.extractLsb'_toNat ..

/-- Settles O45: the two bytes nibble by nibble, the flags from the new A. -/
theorem digitRotatesMoveThreeNibbles : Obligations.DigitRotatesMoveThreeNibbles := by
  refine fun s => ⟨⟨_, _, rfl, ?_, ?_, holdsByte_of_mem (reads := [s.main.hl]) rfl, msb_byte _, beq_zero_byte _,
    parity_eq_evenParity _, rfl, rfl, rfl, rfl⟩, ⟨_, _, rfl, ?_, ?_, holdsByte_of_mem (reads := [s.main.hl]) rfl,
    msb_byte _, beq_zero_byte _, parity_eq_evenParity _, rfl, rfl, rfl, rfl⟩⟩
  · rw [← highNibble_toNat, ← highNibble_toNat]
    exact toNat_append_nibbles ..
  · rw [← lowNibble_toNat, ← lowNibble_toNat]
    exact toNat_append_nibbles ..
  · rw [← highNibble_toNat, ← lowNibble_toNat]
    exact toNat_append_nibbles ..
  · rw [← lowNibble_toNat, ← highNibble_toNat]
    exact toNat_append_nibbles ..

end Sys2Proof.Machine
end

section
/-! PROOF. BIT, SET and RES (47_bit.md). -/

namespace Sys2Proof.Machine

open Sys2Proof Sys2Proof.Rules

/-! ### One bit of a byte (R370, R374, R378) -/

/-- `or` with the mask of bit `b` sets that bit and keeps the others. -/
theorem withBit_or_bitMask (v : Byte) (b : BitVec 3) : WithBit v b true (v ||| bitMask b) := by
  intro k hk
  rw [BitVec.getLsbD_or, bitMask_getLsbD b k hk]
  split <;> simp_all

/-- `and` with the complement of the mask clears that bit and keeps the others. -/
theorem withBit_and_not_bitMask (v : Byte) (b : BitVec 3) : WithBit v b false (v &&& (0xFF#8 ^^^ bitMask b)) := by
  intro k hk
  have hones : (0xFF#8).getLsbD k = true := (BitVec.getLsbD_allOnes (v := 8)).trans (decide_eq_true hk)
  rw [BitVec.getLsbD_and, BitVec.getLsbD_xor, hones, bitMask_getLsbD b k hk]
  split <;> simp_all

/-! ### The operand forms -/

/-- BIT and its T-states: only F changes, Z by the tested bit. -/
theorem State.testBit_addT_spec (s : State) (b : BitVec 3) (v : Byte) (n : Nat) :
    OnlyF s ((s.testBit b v).addT n) n ∧ ((s.testBit b v).addT n).main.f.z = (!v.getLsbD b.toNat) ∧
      ((s.testBit b v).addT n).main.f.h = true ∧ ((s.testBit b v).addT n).main.f.n = false ∧
      ((s.testBit b v).addT n).main.f.c = s.main.f.c :=
  ⟨rfl, rfl, rfl, rfl, rfl⟩

/-- Settles O46: one test of one bit behind the four operand forms, memory read first. -/
theorem bitTestsOneBit : Obligations.BitTestsOneBit := fun s b =>
  ⟨fun r => ⟨_, rfl, s.testBit_addT_spec b (s.r8 r) _⟩,
    ⟨_, rfl, s.afterIndHl.testBit_addT_spec b s.indHl _⟩,
    fun d => ⟨_, rfl, (s.afterRd (s.ixd d)).testBit_addT_spec b (s.rd (s.ixd d)) _⟩,
    fun d => ⟨_, rfl, (s.afterRd (s.iyd d)).testBit_addT_spec b (s.rd (s.iyd d)) _⟩⟩

/-- SET of the byte at `ea` and its T-states. -/
theorem State.setBitAt_addT_spec (s : State) (b : BitVec 3) (ea : Word) (n : Nat) :
    StoresByte (s.afterRd ea) ((s.setBitAt b ea).addT n) ea (s.rd ea ||| bitMask b) n ∧
      WithBit (s.rd ea) b true (s.rd ea ||| bitMask b) :=
  ⟨(s.afterRd ea).wr_addT_storesByte .., withBit_or_bitMask _ b⟩

/-- RES of the byte at `ea` and its T-states. -/
theorem State.resBitAt_addT_spec (s : State) (b : BitVec 3) (ea : Word) (n : Nat) :
    StoresByte (s.afterRd ea) ((s.resBitAt b ea).addT n) ea (s.rd ea &&& (0xFF#8 ^^^ bitMask b)) n ∧
      WithBit (s.rd ea) b false (s.rd ea &&& (0xFF#8 ^^^ bitMask b)) :=
  ⟨(s.afterRd ea).wr_addT_storesByte .., withBit_and_not_bitMask _ b⟩

/-- Settles O47: a load of the changed byte into the register, or a store of it where it was read. -/
theorem setAndResWriteOneBit : Obligations.SetAndResWriteOneBit := fun s b =>
  ⟨fun _ => ⟨_, _, rfl, s.setR8_addT_loadsReg .., withBit_or_bitMask _ b⟩,
    fun _ => ⟨_, _, rfl, s.setR8_addT_loadsReg .., withBit_and_not_bitMask _ b⟩,
    ⟨_, _, rfl, s.setBitAt_addT_spec b s.main.hl _⟩,
    ⟨_, _, rfl, s.resBitAt_addT_spec b s.main.hl _⟩,
    fun d => ⟨_, _, rfl, s.setBitAt_addT_spec b (s.ixd d) _⟩,
    fun d => ⟨_, _, rfl, s.resBitAt_addT_spec b (s.ixd d) _⟩,
    fun d => ⟨_, _, rfl, s.setBitAt_addT_spec b (s.iyd d) _⟩,
    fun d => ⟨_, _, rfl, s.resBitAt_addT_spec b (s.iyd d) _⟩⟩

end Sys2Proof.Machine
end

section
/-! PROOF. Jumps, calls and returns (48_jump_call.md), and interrupt entry with the returns from it
(60_exceptions.md). -/

namespace Sys2Proof.Machine

open Sys2Proof Sys2Proof.Rules

/-! ### Jumps (R390 to R400) -/

/-- A relative jump goes to the rules' displaced PC (R95). -/
theorem State.jumpRelative_eq (s : State) (e : Byte) : s.jumpRelative e = s.setPc (displaced s.pc e) := by
  rw [State.jumpRelative, displaced_eq]

/-- A conditional relative jump: the test of the model and the rule's condition agree. -/
theorem condJump_eq {c : Bool} {p : Prop} [Decidable p] (h : c = true ↔ p) (s : State) (e : Byte) (n m : Nat) :
    (if c then .next ((s.jumpRelative e).addT n) else .next (s.addT m) : Out) =
      if p then .next { s with pc := displaced s.pc e, tStates := s.tStates + n }
      else .next { s with tStates := s.tStates + m } := by
  rw [State.jumpRelative_eq]
  exact if_congr h rfl rfl

/-- Settles O48: the absolute jumps word for word, the relative ones by their displacement, DJNZ by B counted down. -/
theorem jumpsSetPcOnly : Obligations.JumpsSetPcOnly := by
  intro s
  refine ⟨fun nn => rfl, fun cc nn => rfl, rfl, rfl, rfl, fun e => ?_, fun e => condJump_eq ?_ s e _ _,
    fun e => condJump_eq Iff.rfl s e _ _, fun e => condJump_eq ?_ s e _ _, fun e => condJump_eq Iff.rfl s e _ _,
    fun e => ?_⟩
  · change Host.Outcome.next ((s.jumpRelative e).addT _) = _
    rw [State.jumpRelative_eq]
    rfl
  · simp [Flags.cond]
  · simp [Flags.cond]
  · have hb : (s.main.b - 1 != 0) = true ↔ s.main.b ≠ 1 := by
      rw [sub_one_bne_zero_byte, decide_eq_true_iff]
    exact condJump_eq hb (s.setB (s.main.b - 1)) e _ _

/-! ### Calls and returns (R408 to R414) -/

/-- A memory into which `v` was pushed, whatever else has changed. -/
theorem pushedBytes_of_mem {s t : State} {v : Word} (h : t.mem = (s.push16 v).mem) : PushedBytes s t v :=
  ⟨holdsBytes_of_mem (reads := []) (Word.sub_one_ne_sub_two s.sp).symm h, h⟩

/-- A push, a jump and the T-states: nothing else changes. -/
theorem State.push16_setPc_addT_pushes (s : State) (v target : Word) (n : Nat) :
    Pushes s (((s.push16 v).setPc target).addT n) v target n := by
  refine ⟨pushedBytes_of_mem (by simp), ?_⟩
  rw [State.push16_eq]
  rfl

/-- A return and its T-states: PC is the rules' word, and beside the two reads nothing else changes. -/
theorem State.popPc_addT_eq (s : State) (n : Nat) :
    s.popPc.addT n =
      { s.afterRd16 s.sp with pc := wordAt s s.sp, sp := s.sp + 2, tStates := s.tStates + n } := by
  rw [State.popPc_eq]
  rfl

/-- The return from an interrupt likewise, with IFF2 copied into IFF1. -/
theorem State.returnFromInterrupt_addT_eq (s : State) (n : Nat) :
    s.returnFromInterrupt.addT n =
      { s.afterRd16 s.sp with
        pc := wordAt s s.sp
        sp := s.sp + 2
        iff1 := s.iff2
        tStates := s.tStates + n } := by
  rw [State.returnFromInterrupt_eq]
  rfl

/-- Settles O49: calls and restarts by their push; a return pops the rules' word. -/
theorem callsPushPcAndReturnsPopIt : Obligations.CallsPushPcAndReturnsPopIt := by
  intro s
  refine ⟨fun nn => ⟨_, rfl, s.push16_setPc_addT_pushes ..⟩, fun cc nn => exists_next_ite (fun h => ?_) fun h => ?_,
    fun k => ⟨_, rfl, s.push16_setPc_addT_pushes ..⟩, ?_, fun cc => ?_, ?_, ?_⟩
  · rw [if_pos h]
    exact s.push16_setPc_addT_pushes ..
  · rw [if_neg h]
    rfl
  · exact congrArg Host.Outcome.next (s.popPc_addT_eq _)
  · exact if_congr Iff.rfl (congrArg Host.Outcome.next (s.popPc_addT_eq _)) rfl
  · exact congrArg Host.Outcome.next (s.returnFromInterrupt_addT_eq _)
  · exact congrArg Host.Outcome.next (s.returnFromInterrupt_addT_eq _)

/-! ### What a step does that runs no instruction (R441 to R446) -/

theorem cpuStep_of_nmi {s : State} (h : s.nmiPending = true) : cpuStep s = .next s.takeNmi.refreshR := by
  rcases cpuStepWith_cases exec s with ⟨-, e⟩ | ⟨h', -⟩ | ⟨h', -⟩ | ⟨h', -⟩
  · exact e
  all_goals exact nomatch h.symm.trans h'

theorem cpuStep_of_accepts {s : State} (hn : s.nmiPending = false) (ha : s.accepts) :
    cpuStep s = .next s.takeInt.refreshR := by
  rcases cpuStepWith_cases exec s with ⟨hn', -⟩ | ⟨-, -, e⟩ | ⟨-, ha', -⟩ | ⟨-, ha', -⟩
  · exact nomatch hn.symm.trans hn'
  · exact e
  all_goals exact absurd ha ha'

theorem cpuStep_of_halted {s : State} (hn : s.nmiPending = false) (ha : ¬s.accepts) (hh : s.halted = true) :
    cpuStep s = .next (s.addT 4).refreshR := by
  rcases cpuStepWith_cases exec s with ⟨hn', -⟩ | ⟨-, ha', -⟩ | ⟨-, -, -, e⟩ | ⟨-, -, hh', -⟩
  · exact nomatch hn.symm.trans hn'
  · exact absurd ha' ha
  · exact e
  · exact nomatch hh.symm.trans hh'

/-- Settles O9, from NMI entry in full. -/
theorem nmiEntryPushesPcAndGoesTo0066 : Obligations.NmiEntryPushesPcAndGoesTo0066 := by
  intro s hn
  refine ⟨_, cpuStep_of_nmi hn, ?_⟩
  rw [State.takeNmi_eq]
  exact ⟨pushedBytes_of_mem rfl, State.refreshR_bit7 _, rfl⟩

/-- Settles O10, from maskable entry in full. -/
theorem maskableEntryPushesPcAndGoesTo0038 : Obligations.MaskableEntryPushesPcAndGoesTo0038 := by
  intro s hn hi hm hf
  refine ⟨_, cpuStep_of_accepts hn ⟨hi, hm, hf⟩, ?_⟩
  rw [State.takeInt_eq]
  exact ⟨pushedBytes_of_mem rfl, State.refreshR_bit7 _, rfl⟩

/-- Settles O11: each of the four ways to accept nothing contradicts acceptance. -/
theorem haltedCpuIdlesFourTStates : Obligations.HaltedCpuIdlesFourTStates := by
  intro s hh hn hno
  have ha : ¬s.accepts := fun ⟨hint, him, hiff⟩ => by simp [hint, him, hiff] at hno
  exact ⟨_, cpuStep_of_halted hn ha hh, (s.addT 4).refreshR_bit7, rfl⟩

/-! ### A handler that returns at once (R455, R456) -/

/-- Where the PC of `s` was pushed on entry, a return brings back PC and SP. -/
theorem State.popPc_of_entry {s t : State} (hf : s.mem.isFlat = true) (hm : t.mem = (s.push16 s.pc).mem)
    (hs : t.sp = s.sp - 2) : t.popPc.pc = s.pc ∧ t.popPc.sp = s.sp :=
  ⟨State.popped_of_push hf hm hs, (congrArg (· + 2) hs).trans (BitVec.sub_add_cancel s.sp 2)⟩

/-- The return from an interrupt and its T-states, where the PC of `s` was pushed on entry: PC and SP come back, IFF1 is
IFF2, and the rest of the CPU's state stays. -/
theorem State.returnFromInterrupt_of_entry {s t : State} (hf : s.mem.isFlat = true)
    (hm : t.mem = (s.push16 s.pc).mem) (hs : t.sp = s.sp - 2) (n : Nat) :
    (t.returnFromInterrupt.addT n).pc = s.pc ∧ (t.returnFromInterrupt.addT n).sp = s.sp ∧
      (t.returnFromInterrupt.addT n).iff1 = t.iff2 ∧ (t.returnFromInterrupt.addT n).iff2 = t.iff2 ∧
      (t.returnFromInterrupt.addT n).main = t.main ∧ (t.returnFromInterrupt.addT n).halted = t.halted := by
  rw [← (State.popPc_of_entry hf hm hs).1, ← (State.popPc_of_entry hf hm hs).2]
  simp [State.returnFromInterrupt_eq, State.popPc_eq, State.afterRd16]

/-- Settles O50: what the return pops is the PC that the entry pushed. -/
theorem returnsComeBackToTheInterruptedPc : Obligations.ReturnsComeBackToTheInterruptedPc := by
  refine ⟨fun s hf hn => ?_, fun s hf hn hi hm hiff => ?_, fun s nn hf => ?_⟩
  · obtain ⟨t, e, ⟨-, hmem⟩, -, ht⟩ := nmiEntryPushesPcAndGoesTo0066 s hn
    have hu := State.returnFromInterrupt_of_entry hf hmem (congrArg State.sp ht) (t.cost .retn)
    rw [congrArg State.iff2 ht, congrArg State.main ht, congrArg State.halted ht] at hu
    exact ⟨t, _, e, rfl, hu⟩
  · obtain ⟨t, e, ⟨-, hmem⟩, -, ht⟩ := maskableEntryPushesPcAndGoesTo0038 s hn hi hm hiff
    have hu := State.returnFromInterrupt_of_entry hf hmem (congrArg State.sp ht) (t.cost .reti)
    rw [congrArg State.iff2 ht, congrArg State.main ht, congrArg State.halted ht] at hu
    exact ⟨t, _, e, rfl, hu⟩
  · obtain ⟨hcall, -⟩ := callsPushPcAndReturnsPopIt s
    obtain ⟨t, e, ⟨-, hmem⟩, ht⟩ := hcall nn
    exact ⟨t, _, e, congrArg State.pc ht, rfl, State.popPc_of_entry hf hmem (congrArg State.sp ht)⟩

end Sys2Proof.Machine
end

section
/-! SUPPORT. What an instruction other than EI does to the held fault and to `TStates` (R14, R38, R450, R451, R548): one
lemma per operation, then one over all instructions. -/

namespace Sys2Proof.Machine

open Sys2Proof Sys2Proof.Rules

/-- The elapsed T-states and the held fault. -/
def State.clock (s : State) : Nat × Option Fault := (s.tStates, s.fault)

section operations

variable (s : State)

@[simp] theorem State.clock_setPc (v : Word) : (s.setPc v).clock = s.clock := rfl
@[simp] theorem State.clock_setSp (v : Word) : (s.setSp v).clock = s.clock := rfl
@[simp] theorem State.clock_setIx (v : Word) : (s.setIx v).clock = s.clock := rfl
@[simp] theorem State.clock_setIy (v : Word) : (s.setIy v).clock = s.clock := rfl
@[simp] theorem State.clock_setA (v : Byte) : (s.setA v).clock = s.clock := rfl
@[simp] theorem State.clock_setB (v : Byte) : (s.setB v).clock = s.clock := rfl
@[simp] theorem State.clock_setR8 (r : Reg8) (v : Byte) : (s.setR8 r v).clock = s.clock := rfl
@[simp] theorem State.clock_setBc (v : Word) : (s.setBc v).clock = s.clock := rfl
@[simp] theorem State.clock_setDe (v : Word) : (s.setDe v).clock = s.clock := rfl
@[simp] theorem State.clock_setHl (v : Word) : (s.setHl v).clock = s.clock := rfl
@[simp] theorem State.clock_afterRd (a : Word) : (s.afterRd a).clock = s.clock := rfl
@[simp] theorem State.clock_afterIndHl : s.afterIndHl.clock = s.clock := rfl
@[simp] theorem State.clock_wr (a : Word) (v : Byte) : (s.wr a v).clock = s.clock := rfl
@[simp] theorem State.clock_writeFlags (f : Flags) : (s.writeFlags f).clock = s.clock := rfl
@[simp] theorem State.clock_exchangeAf : s.exchangeAf.clock = s.clock := rfl
@[simp] theorem State.clock_exchangeBanks : s.exchangeBanks.clock = s.clock := rfl

@[simp] theorem State.clock_withVdp (w : Vdp) : State.clock { s with vdp := w } = s.clock := rfl

@[simp] theorem State.clock_withVdp_draws (w : Vdp) (d : Nat) :
    State.clock { s with vdp := w, draws := d } = s.clock := rfl

@[simp] theorem State.clock_setPair (p : Pair) (v : Word) : (s.setPair p v).clock = s.clock := by cases p <;> rfl

@[simp] theorem State.clock_setStackPair (p : StackPair) (v : Word) : (s.setStackPair p v).clock = s.clock := by
  cases p <;> rfl

@[simp] theorem State.clock_wr16 (a v : Word) : (s.wr16 a v).clock = s.clock := by simp [State.wr16]
@[simp] theorem State.clock_push16 (v : Word) : (s.push16 v).clock = s.clock := by simp [State.push16]
@[simp] theorem State.clock_afterRd16 (a : Word) : (s.afterRd16 a).clock = s.clock := by simp [State.afterRd16]
@[simp] theorem State.clock_drop16 : s.drop16.clock = s.clock := by simp [State.drop16]
@[simp] theorem State.clock_popPc : s.popPc.clock = s.clock := by simp [State.popPc]
@[simp] theorem State.clock_returnFromInterrupt : s.returnFromInterrupt.clock = s.clock := s.clock_popPc

@[simp] theorem State.clock_jumpRelative (e : Byte) : (s.jumpRelative e).clock = s.clock := by
  simp [State.jumpRelative]

@[simp] theorem State.clock_storeAtSp (v : Word) : (s.storeAtSp v).clock = s.clock := by simp [State.storeAtSp]
@[simp] theorem State.clock_aluAdd (v : Byte) (c : Bool) : (s.aluAdd v c).clock = s.clock := by simp [State.aluAdd]
@[simp] theorem State.clock_aluSub (v : Byte) (c : Bool) : (s.aluSub v c).clock = s.clock := by simp [State.aluSub]
@[simp] theorem State.clock_aluAnd (v : Byte) : (s.aluAnd v).clock = s.clock := by simp [State.aluAnd]
@[simp] theorem State.clock_aluXor (v : Byte) : (s.aluXor v).clock = s.clock := by simp [State.aluXor]
@[simp] theorem State.clock_aluOr (v : Byte) : (s.aluOr v).clock = s.clock := by simp [State.aluOr]
@[simp] theorem State.clock_aluCp (v : Byte) : (s.aluCp v).clock = s.clock := by simp [State.aluCp]
@[simp] theorem State.clock_incAt (a : Word) : (s.incAt a).clock = s.clock := by simp [State.incAt]
@[simp] theorem State.clock_decAt (a : Word) : (s.decAt a).clock = s.clock := by simp [State.decAt]
@[simp] theorem State.clock_rotAt (k : RotOp) (a : Word) : (s.rotAt k a).clock = s.clock := by simp [State.rotAt]
@[simp] theorem State.clock_rotR (k : RotOp) (r : Reg8) : (s.rotR k r).clock = s.clock := by simp [State.rotR]
@[simp] theorem State.clock_rotA (k : RotOp) : (s.rotA k).clock = s.clock := by simp [State.rotA]

@[simp] theorem State.clock_testBit (b : BitVec 3) (v : Byte) : (s.testBit b v).clock = s.clock := by
  simp [State.testBit]

@[simp] theorem State.clock_setBitAt (b : BitVec 3) (a : Word) : (s.setBitAt b a).clock = s.clock := by
  simp [State.setBitAt]

@[simp] theorem State.clock_resBitAt (b : BitVec 3) (a : Word) : (s.resBitAt b a).clock = s.clock := by
  simp [State.resBitAt]

@[simp] theorem State.clock_moveBlock (v : Word) : (s.moveBlock v).clock = s.clock := by simp [State.moveBlock]
@[simp] theorem State.clock_compareBlock (v : Word) : (s.compareBlock v).clock = s.clock := by
  simp [State.compareBlock]

@[simp] theorem State.clock_loadIr (v : Byte) : (s.loadIr v).clock = s.clock := by simp [State.loadIr]
@[simp] theorem State.clock_rotateDigitLeft : s.rotateDigitLeft.clock = s.clock := by simp [State.rotateDigitLeft]
@[simp] theorem State.clock_rotateDigitRight : s.rotateDigitRight.clock = s.clock := by
  simp [State.rotateDigitRight]

@[simp] theorem State.clock_inBlock (by_ : Word) (v : Byte) : (s.inBlock by_ v).clock = s.clock := by
  simp [State.inBlock, State.blockIoFlags]

@[simp] theorem State.clock_outBlock (by_ : Word) : (s.outBlock by_).clock = s.clock := by
  simp [State.outBlock, State.blockIoFlags]

/-! The costs of a repeating form are those of the state before it. -/

theorem State.params_moveBlock (v : Word) : (s.moveBlock v).params = s.params :=
  congrArg Outside.params (s.outside_moveBlock v)

theorem State.params_compareBlock (v : Word) : (s.compareBlock v).params = s.params :=
  congrArg Outside.params (s.outside_compareBlock v)

theorem State.params_inBlock (by_ : Word) (v : Byte) : (s.inBlock by_ v).params = s.params :=
  congrArg Outside.params (s.outside_inBlock by_ v)

theorem State.params_outBlock (by_ : Word) : (s.outBlock by_).params = s.params :=
  congrArg Outside.params (s.outside_outBlock by_)

end operations

/-- From `s` to `t` the fault `raised` is raised, or, when there is none, `n` T-states are added. -/
structure State.Spends (s t : State) (raised : Option Fault) (n : Nat) : Prop where
  fault : t.fault = raised.or s.fault
  tStates : t.tStates = s.tStates + if raised.isSome then 0 else n

section

variable {s u : State} (h : u.clock = s.clock)
include h

theorem State.Spends.of_clock : s.Spends u none 0 where
  fault := congrArg Prod.snd h
  tStates := congrArg Prod.fst h

theorem State.Spends.of_addT (n : Nat) : s.Spends (u.addT n) none n where
  fault := congrArg Prod.snd h
  tStates := congrArg (Prod.fst · + n) h

theorem State.Spends.of_raise (f : Fault) (n : Nat) : s.Spends (u.raise f) (some f) n where
  fault := rfl
  tStates := congrArg Prod.fst h

/-- A repeating form takes its first cost when it repeats, and its second when it stops (R196). -/
theorem State.Spends.of_repeatIf {i : Instr} {again takes : Bool} (hp : u.params = s.params) (ht : again = takes) :
    s.Spends (u.repeatIf i again) none (if takes then s.cost i else s.costElse i) := by
  subst ht
  have hcost : u.cost i = s.cost i ∧ u.costElse i = s.costElse i := by
    simp only [State.cost, State.costElse, hp, and_self]
  cases again
  · exact hcost.2 ▸ .of_addT h (u.costElse i)
  · exact hcost.1 ▸ .of_addT (u := u.setPc (u.pc - 2)) h (u.cost i)

end

/-! ### Branches -/

/-- A conditional instruction takes its first cost when it branches, and its second when not. -/
theorem exists_spends_ite {s u w : State} {i : Instr} {c takes : Bool} (ht : c = takes) (hu : u.clock = s.clock)
    (hw : w.clock = s.clock) :
    ∃ t, (if c then .next (u.addT (s.cost i)) else .next (w.addT (s.costElse i)) : Out) = .next t ∧
      s.Spends t none (if takes then s.cost i else s.costElse i) := by
  subst ht
  cases c
  · exact ⟨_, rfl, .of_addT hw _⟩
  · exact ⟨_, rfl, .of_addT hu _⟩

/-! ### Port operations (R451) -/

/-- An output to a registered port goes on from a state that differs in the VDP only. -/
theorem State.outThen_of_registered {s : State} {lo : Byte} (h : registered s lo s.params.writePorts = true)
    (hi v : Byte) (k : State → State) : ∃ w, s.outThen hi lo v k = .next (k { s with vdp := w }) := by
  rw [registered_eq_true_iff] at h
  rcases s.outThen_cases hi lo v k with ⟨-, e⟩ | ⟨-, e⟩ | ⟨-, -, -, e⟩ | ⟨h1, h2, h3, -⟩
  · exact ⟨_, e⟩
  · exact ⟨_, e⟩
  · exact ⟨_, e⟩
  · exact absurd h (by simpa [h1, h2] using h3)

/-- An output to an unregistered port raises InvalidPort and does nothing else. -/
theorem State.outThen_of_not_registered {s : State} {lo : Byte} (h : ¬registered s lo s.params.writePorts = true)
    (hi v : Byte) (k : State → State) : s.outThen hi lo v k = .next (s.raise (.invalidPort lo)) := by
  rw [registered_eq_true_iff] at h
  rcases s.outThen_cases hi lo v k with ⟨h1, -⟩ | ⟨h1, -⟩ | ⟨-, -, h1, -⟩ | ⟨-, -, -, e⟩
  · exact absurd (.inl h1) h
  · exact absurd (.inr (.inl h1)) h
  · exact absurd (.inr (.inr h1)) h
  · exact e

/-- The fault of a port operation: InvalidPort on an unregistered port. -/
def portFault (s : State) (lo : Byte) (more : List Byte) : Option Fault :=
  if registered s lo more then none else some (.invalidPort lo)

theorem State.inThen_spends {s : State} {hi lo : Byte} {k : Byte → State → State} {n : Nat}
    (hk : ∀ v w d, s.Spends (k v { s with vdp := w, draws := d }) none n) :
    ∃ t, s.inThen hi lo k = .next t ∧ s.Spends t (portFault s lo s.params.readPorts) n := by
  unfold portFault
  by_cases h : registered s lo s.params.readPorts = true
  · obtain ⟨v, w, d, e, -⟩ := State.inThen_of_registered h hi k
    exact ⟨_, e, by rw [if_pos h]; exact hk ..⟩
  · exact ⟨_, State.inThen_of_not_registered h hi k, by rw [if_neg h]; exact .of_raise rfl ..⟩

/-- An output made at `u`, to which `s` has led. -/
theorem State.outThen_spends {s u : State} (hu : u.clock = s.clock) {hi lo v : Byte} {k : State → State} {n : Nat}
    (hk : ∀ w, s.Spends (k { u with vdp := w }) none n) :
    ∃ t, u.outThen hi lo v k = .next t ∧ s.Spends t (portFault u lo u.params.writePorts) n := by
  unfold portFault
  by_cases h : registered u lo u.params.writePorts = true
  · obtain ⟨w, e⟩ := State.outThen_of_registered h hi v k
    exact ⟨_, e, by rw [if_pos h]; exact hk w⟩
  · exact ⟨_, State.outThen_of_not_registered h hi v k, by rw [if_neg h]; exact .of_raise hu ..⟩

/-! ### Over all instructions -/

/-- Every instruction but EI raises the fault of its row or port, or adds its cost. -/
theorem exec_spends {i : Instr} (hi : i ≠ .ei) (s : State) :
    ∃ t, exec i s = .next t ∧ s.Spends t (faultOf s i) (charge s i) := by
  cases i with
  | ei => exact absurd rfl hi
  | unknownHalfIndexDd | unknownDdcb | unknownHalfIndexFd | unknownFdcb | unknownEd =>
    exact ⟨_, rfl, .of_raise rfl ..⟩
  | discardedPrefixDd | discardedPrefixFd => exact ⟨_, rfl, .of_clock (s.clock_setPc _)⟩
  | jrNzE | jrZE | jrNcE | jrCE => exact exists_spends_ite rfl (s.clock_jumpRelative _) rfl
  | jpCcNn => exact exists_spends_ite rfl (s.clock_setPc _) rfl
  | callCcNn cc nn => exact exists_spends_ite rfl (by simp) rfl
  | retCc => exact exists_spends_ite rfl s.clock_popPc rfl
  | djnzE => exact exists_spends_ite (sub_one_bne_zero_byte s.main.b) (by simp) (s.clock_setB _)
  | ldir | lddr =>
    exact ⟨_, rfl, .of_repeatIf (s.clock_moveBlock _) (s.params_moveBlock _) (sub_one_bne_zero_word s.main.bc)⟩
  | cpir | cpdr =>
    refine ⟨_, rfl, .of_repeatIf (s.clock_compareBlock _) (s.params_compareBlock _) ?_⟩
    rw [sub_one_bne_zero_word, sub_bne_zero_byte, ← Bool.decide_and]
    rfl
  | inAPortN | inRPortC | ini | ind => exact State.inThen_spends fun v w d => .of_addT (by simp) _
  | inir | indr =>
    exact State.inThen_spends fun v w d =>
      .of_repeatIf (by simp) (State.params_inBlock ..) (sub_one_bne_zero_byte s.main.b)
  | outPortNA | outPortCR => exact State.outThen_spends rfl fun w => .of_addT (s.clock_withVdp w) _
  | outi | outd =>
    refine State.outThen_spends (by simp) fun w => .of_addT ?_ _
    exact State.clock_outBlock ..
  | otir | otdr =>
    refine State.outThen_spends (by simp) fun w =>
      .of_repeatIf ?_ (State.params_outBlock ..) (sub_one_bne_zero_byte s.main.b)
    exact State.clock_outBlock ..
  | halt | di | im0 | im1 | im2 | ldIA | ldRA =>
    refine ⟨_, rfl, .of_addT ?_ _⟩
    rfl
  | _ =>
    refine ⟨_, rfl, .of_addT ?_ _⟩
    simp -implicitDefEqProofs

end Sys2Proof.Machine
end

section
/-! PROOF. Faults, costs and port operations over all instructions (R450, R451, R548), and IN and OUT (49_io.md). -/

namespace Sys2Proof.Machine

open Sys2Proof Sys2Proof.Rules

/-! ### A step never refuses -/

/-- EI refuses only where its nested step does. -/
theorem eiWith_ne_refused {nested : State → Out} (h : ∀ s r, nested s ≠ .refused r) (s : State) (r : Refusal) :
    eiWith nested s ≠ .refused r := by
  unfold eiWith
  split
  · split <;> simp
  · simp
  · exact absurd ‹_› (h _ _)

theorem Out.mapNext_ne_refused {o : Out} {r : Refusal} (h : o ≠ .refused r) (f : State → State) :
    Out.mapNext f o ≠ .refused r := by
  cases o with
  | refused => exact h
  | _ => simp [Out.mapNext]

/-- By induction on the bound of EI's nesting. -/
theorem cpuStepFuel_ne_refused (n : Nat) (s : State) (r : Refusal) : cpuStepFuel n s ≠ .refused r := by
  induction n generalizing s r with
  | zero => simp [cpuStepFuel_zero]
  | succ n ih =>
    rw [cpuStepFuel_succ]
    rcases cpuStepWith_cases (runInstr (cpuStepFuel n)) s with ⟨-, e⟩ | ⟨-, -, e⟩ | ⟨-, -, -, e⟩ | ⟨-, -, -, e⟩
    · simp [e]
    · simp [e]
    · simp [e]
    · rw [e]
      apply Out.mapNext_ne_refused
      by_cases hi : s.fetchInstr = .ei
      · rw [hi]
        exact eiWith_ne_refused ih _ r
      · obtain ⟨t, et, -⟩ := exec_spends hi (s.skip s.fetchInstr.size)
        simp [runInstr_of_ne_ei _ hi, et]

/-- Settles O18: what an instruction raises, and that neither an instruction nor EI's nested step refuses. -/
theorem onlyUnknownKeysAndPortsRaise : Obligations.OnlyUnknownKeysAndPortsRaise := by
  refine ⟨fun i s hi => ?_, fun s r => ?_⟩
  · obtain ⟨t, e, ht⟩ := exec_spends hi s
    refine ⟨t, e, ht.fault.trans ?_⟩
    cases faultOf s i <;> rfl
  · cases hf : s.afterInput.fault with
    | some f => simp [step_of_fault hf]
    | none =>
      simp only [step, driverTurn, hf]
      apply Out.mapNext_ne_refused
      rw [cpuStep_eq]
      exact cpuStepFuel_ne_refused _ _ r

/-! ### Costs (R548) -/

/-- R548's table and the default `Cost` agree row by row. -/
theorem costOf_default (i : Instr) : costOf Params.default.cost i = standardCost i := by cases i <;> rfl

/-- Settles O20, from what every instruction adds and R548's table. -/
theorem everyInstructionAddsItsCost : Obligations.EveryInstructionAddsItsCost := by
  refine ⟨fun i s hi => ?_, costOf_default⟩
  obtain ⟨t, e, ht⟩ := exec_spends hi s
  exact ⟨t, e, ht.tStates⟩

/-! ### Unregistered ports (R451) -/

/-- The further ports of an instruction's port operation are those of the parameter `Ports`. -/
theorem portOf_ports {s : State} {i : Instr} {lo : Byte} {more : List Byte} {counted : Bool}
    (h : portOf s i = some (lo, more, counted)) : more = s.params.readPorts ∨ more = s.params.writePorts := by
  cases i with
  | ini | ind | inir | indr | inAPortN | inRPortC => cases h; exact .inl rfl
  | outPortNA | outPortCR | outi | outd | otir | otdr => cases h; exact .inr rfl
  | _ => cases h

/-- What an instruction has done before its port operation on an unregistered port raises. -/
theorem exec_of_not_registered {s : State} {i : Instr} {lo : Byte} {more : List Byte} {counted : Bool}
    (hp : portOf s i = some (lo, more, counted)) (h : ¬registered s lo more = true) :
    exec i s =
      .next
        { s with
          mem := readAll s.mem (readsOf s i)
          main := if counted = true then { s.main with b := s.main.b - 1 } else s.main
          fault := some (.invalidPort lo) } := by
  cases i with
  | ini | ind | inir | indr | inAPortN | inRPortC => cases hp; exact State.inThen_of_not_registered h _ _
  | outPortNA | outPortCR => cases hp; exact State.outThen_of_not_registered h _ _ _
  | outi | outd | otir | otdr =>
    cases hp
    exact State.outThen_of_not_registered (s := s.afterIndHl.setB (s.main.b - 1)) h _ _ _
  | _ => cases hp

/-- Settles O53: the instruction raises after its reads and B's count, and by default only the VDP's ports are
registered. -/
theorem unregisteredPortRaisesInvalidPort : Obligations.UnregisteredPortRaisesInvalidPort := by
  refine ⟨fun s i lo more counted hp h => exec_of_not_registered hp (by simp [h]), fun s i lo more counted hs hp => ?_⟩
  have hmore : more = [] := by
    rcases portOf_ports hp with rfl | rfl <;> rw [hs] <;> rfl
  rw [registered_eq_true_iff, hs, hmore, Params.default_dataPort, Params.default_ctrlPort]
  simp

/-! ### IN and OUT (R420, R421, R426, R427) -/

/-- The data port is even and the control port the next (R66, R489). -/
theorem Params.ports_even_odd (p : Params) : p.dataPort.getLsbD 0 = false ∧ p.ctrlPort = p.dataPort + 1 := by
  unfold Params.ctrlPort Params.dataPort
  generalize p.vdpPort = v
  revert v
  decide

/-- Settles O51: the instruction goes on with the byte and the state that the port gives. -/
theorem inAndOutTransferOneByte : Obligations.InAndOutTransferOneByte := by
  refine ⟨fun s => ⟨fun n v u h => ?_, fun r v u h => ?_, fun n u h => ?_, fun r u h => ?_⟩, Params.ports_even_odd,
    rfl, rfl, rfl⟩
  · have e := State.inThen_of_portIn h s.main.a fun v u => (u.setA v).addT (s.cost (.inAPortN n))
    obtain ⟨w, d, rfl⟩ := portIn_frame h
    exact e
  · have e := State.inThen_of_portIn h s.main.b fun v u =>
      ((u.setR8 r v).writeFlags { szp8 u.main.f v with h := false, n := false }).addT (s.cost (.inRPortC r))
    obtain ⟨w, d, rfl⟩ := portIn_frame h
    obtain ⟨hr, hq, ht⟩ := State.setR8_writeFlags_addT_onlyRegF { s with vdp := w, draws := d } r v
      { szp8 s.main.f v with h := false, n := false } (s.cost (.inRPortC r))
    exact ⟨_, e, hr, hq, msb_byte v, beq_zero_byte v, parity_eq_evenParity v, rfl, rfl, rfl, ht⟩
  · have e := State.outThen_of_portOut h s.main.a fun u => u.addT (s.cost (.outPortNA n))
    obtain ⟨w, rfl, -⟩ := portOut_frame h s.main.b
    exact e
  · have e := State.outThen_of_portOut h s.main.b fun u => u.addT (s.cost (.outPortCR r))
    obtain ⟨w, rfl, -⟩ := portOut_frame h s.main.b
    exact e

end Sys2Proof.Machine
end

section
/-! PROOF. One turn of the driver around one instruction (R441, R465, R467), and the state after reset (R541). -/

namespace Sys2Proof.Machine

open Sys2Proof Sys2Proof.Rules

/-! ### The instruction at PC (R12, R90, R441) -/

/-- Four bytes are enough for every instruction, so `decode` answers what `decode4` does. -/
theorem decode4_of_decode {b0 b1 b2 b3 : Byte} {i : Instr} {rest : List Byte}
    (h : decode [b0, b1, b2, b3] = .ok (i, rest)) : decode4 b0 b1 b2 b3 = i := by
  have hsize : (decode4 b0 b1 b2 b3).size ≤ 4 := Instr.size_le _
  have hd : decode [b0, b1, b2, b3] =
      .ok (decode4 b0 b1 b2 b3, [b0, b1, b2, b3].drop (decode4 b0 b1 b2 b3).size) := if_pos hsize
  rw [hd] at h
  cases h
  rfl

/-- Another `DiscardSet` moves a key between two rows of the same length. -/
theorem Params.classify_size (p : Params) (i : Instr) : (p.classify i).size = i.size := by
  cases i with
  | unknownHalfIndexDd | discardedPrefixDd | unknownHalfIndexFd | discardedPrefixFd =>
    simp only [Params.classify]
    split <;> rfl
  | _ => rfl

/-- A turn that begins without a fault is the step of the CPU, then the tick. -/
theorem step_of_no_fault {s : State} (h : s.afterInput.fault = none) :
    step s =
      Out.mapNext (State.driveVdp s.afterInput.tStates s.nextInput.shouldRender)
        (cpuStep s.afterInput.feedInterrupt) := by
  simp only [step, driverTurn, h]

/-- One fetch more reads the byte at PC and moves PC past it (R12). -/
theorem State.skip_succ (s : State) (n : Nat) :
    s.skip (n + 1) = { (s.skip n).afterRd (s.pc + BitVec.ofNat 16 n) with pc := s.pc + BitVec.ofNat 16 (n + 1) } := by
  have h : (s.skip n).skip 1 = { (s.skip n).afterRd (s.skip n).pc with pc := (s.skip n).pc + 1 } := rfl
  rw [← State.skip_skip, h, State.skip_pc, BitVec.ofNat_add, BitVec.add_assoc]
  rfl

/-- Settles O8: the CPU runs the instruction that its four bytes decode to. -/
theorem stepRunsTheDecodedInstruction : Obligations.StepRunsTheDecodedInstruction := by
  refine ⟨fun s i rest => ?_, fun s => ⟨fun h => ?_, fun h => ?_⟩, fun s n => ⟨rfl, s.skip_succ n⟩⟩
  · intro u hf hn ha hh hd
    have hfetch : u.fetchInstr = u.params.classify i := congrArg u.params.classify (decode4_of_decode hd)
    have hcpu : cpuStep u = Out.mapNext State.refreshR (exec (u.params.classify i) (u.skip i.size)) := by
      rw [cpuStep, cpuStepWith_of_runs ⟨hn, ha, hh⟩, hfetch, Params.classify_size]
    rw [step_of_no_fault hf, hcpu]
    rfl
  · simp only [State.feedInterrupt, h, Feed.pending, Feed.keeps]
  · simp only [State.feedInterrupt, h, Feed.pending, Feed.keeps]

/-! ### The driver's tick (R467) -/

theorem State.driveVdp_of_no_fault {u : State} (h : u.fault = none) (before : Nat) (render : Bool) :
    u.driveVdp before render =
      { u with
        vdp := u.vdp.tick ((u.acc + u.params.tickNum * (u.tStates - before)) / u.params.tickDen) render
        acc := (u.acc + u.params.tickNum * (u.tStates - before)) % u.params.tickDen } := by
  simp only [State.driveVdp, h]

theorem State.driveVdp_of_fault {u : State} (h : u.fault ≠ none) (before : Nat) (render : Bool) :
    u.driveVdp before render = u := by
  obtain ⟨f, hf⟩ := Option.ne_none_iff_exists'.mp h
  simp only [State.driveVdp, hf]

/-- The host's input looks at `int_pending` in no case. -/
theorem State.applyInput_intPending (s : State) (b : Bool) (input : HostInput) :
    ∃ b', State.applyInput { s with intPending := b } input = { s.applyInput input with intPending := b' } := by
  unfold State.applyInput
  cases input.reset <;> cases input.clearTStates <;> cases input.clearIrq <;> cases input.nmi <;> exact ⟨_, rfl⟩

/-- The level copy overwrites it (D20). -/
theorem State.feedInterrupt_of_level {s : State} (h : s.params.feed = .level) (b : Bool) :
    State.feedInterrupt { s with intPending := b } = s.feedInterrupt := by
  simp only [State.feedInterrupt, h, Feed.pending]

/-- Settles O14: the quotient to `Tick` and the remainder to `acc`; the level copy forgets the old `int_pending`. -/
theorem driverScalesTStatesToVdpCycles : Obligations.DriverScalesTStatesToVdpCycles := by
  refine ⟨fun s u hf hu => ?_, ⟨rfl, rfl, rfl⟩, fun s b hfeed => ?_⟩
  · have hstep : step s = .next (u.driveVdp s.afterInput.tStates s.nextInput.shouldRender) := by
      rw [step_of_no_fault hf, hu]
      rfl
    refine ⟨fun hu => ⟨_, hstep, ?_⟩, fun hu => ?_⟩
    · rw [State.driveVdp_of_no_fault hu]
      exact ⟨rfl, Nat.div_add_mod .., fun hpos => Nat.mod_lt _ hpos, rfl⟩
    · rw [hstep, State.driveVdp_of_fault hu]
  · obtain ⟨b', hb⟩ := State.applyInput_intPending { s with inputs := s.inputs.tail } b s.nextInput
    have hin : State.afterInput { s with intPending := b } = { s.afterInput with intPending := b' } := hb
    have hlevel : s.afterInput.params.feed = .level := s.afterInput_keeps.params ▸ hfeed
    simp only [step, driverTurn, hin, State.feedInterrupt_of_level hlevel]
    rfl

/-! ### Reset (R541) -/

/-- Settles O15: every element as the tables give it, and the four bytes from 0x0000 on. -/
theorem resetSetsTheDefinedElements : Obligations.ResetSetsTheDefinedElements := by
  refine ⟨fun p screen u mem inputs draws => ?_, fun p screen u image inputs draws => ?_⟩
  · refine ⟨rfl, rfl, rfl, rfl, rfl, rfl, rfl, rfl, rfl, rfl, rfl, fun k => ?_, rfl, rfl, rfl, rfl, rfl, rfl, rfl, rfl,
      rfl, rfl, rfl, rfl, rfl, rfl, rfl, rfl, rfl, rfl, rfl, rfl, rfl, rfl, rfl⟩
    exact Vector.getElem_replicate ..
  · have hflat : (State.resetWith p screen (ResetState.ofTable u) (.flat image) inputs draws).mem.isFlat = true := rfl
    simp only [State.fetchInstr, State.fetchByte_of_isFlat hflat]
    rfl

end Sys2Proof.Machine
end

section
/-! PROOF. The VDP (61_vdp.md): its port writes, the vertical counter, `Tick`, and what a scanline sets and draws. -/

namespace Sys2Proof.Machine

open Sys2Proof Sys2Proof.Rules

/-! ### The address register (R484) -/

theorem extractLsb'_append_byte (x : BitVec 14) (b : Byte) :
    x.extractLsb' 8 6 ++ b = BitVec.ofNat 14 (x.toNat / 256 * 256 + b.toNat) := by
  have hx := x.isLt
  have hb := b.isLt
  apply BitVec.eq_of_toNat_eq
  rw [toNat_append_eq_add, BitVec.extractLsb'_toNat, Nat.shiftRight_eq_div_pow, BitVec.toNat_ofNat]
  omega

/-- The address after the second control byte: its low six bits over the low byte of the old one (R484). -/
def Vdp.secondAddr (v : Vdp) (b : Byte) : Nat := b.toNat % 64 * 256 + v.addr.toNat % 256

theorem Vdp.secondAddr_eq (v : Vdp) (b : Byte) :
    b.extractLsb' 0 6 ++ v.addr.extractLsb' 0 8 = BitVec.ofNat 14 (v.secondAddr b) := by
  have hlow : (v.addr.extractLsb' 0 8).toNat = v.addr.toNat % 256 := BitVec.extractLsb'_toNat ..
  have hhigh : (b.extractLsb' 0 6).toNat = b.toNat % 64 := BitVec.extractLsb'_toNat ..
  apply BitVec.eq_of_toNat_eq
  rw [toNat_append_eq_add, hlow, hhigh, BitVec.toNat_ofNat, Vdp.secondAddr]
  omega

/-- The code is the control byte's high two bits (R484). -/
theorem code_toNat (b : Byte) : (b.extractLsb' 6 2).toNat = b.toNat / 64 := by
  have hb := b.isLt
  rw [BitVec.extractLsb'_toNat, Nat.shiftRight_eq_div_pow]
  omega

theorem code_eq_iff (b : Byte) (c : BitVec 2) : b.extractLsb' 6 2 = c ↔ b.toNat / 64 = c.toNat := by
  rw [← BitVec.toNat_inj, code_toNat]

/-! ### Control writes (R484) -/

theorem Vdp.writeControl_of_not_latch {v : Vdp} (h : v.latch = false) (b : Byte) :
    v.writeControl b = { v with addr := BitVec.ofNat 14 (v.addr.toNat / 256 * 256 + b.toNat), latch := true } := by
  rw [Vdp.writeControl, h, if_neg Bool.false_ne_true, Vdp.writeControlFirst, extractLsb'_append_byte]

/-- The second control byte at code 0 pre-fetches. -/
theorem Vdp.writeControlSecond_prefetch {v : Vdp} {b : Byte} (h : b.toNat / 64 = 0) :
    v.writeControlSecond b =
      { v with
        latch := false
        code := b.extractLsb' 6 2
        readbuf := Vram.read v.vram (BitVec.ofNat 14 (v.secondAddr b))
        addr := BitVec.ofNat 14 (v.secondAddr b + 1) } := by
  simp only [Vdp.writeControlSecond, Vdp.secondAddr_eq, BitVec.ofNat_add]
  rw [if_pos ((code_eq_iff b 0#2).mpr h)]
  rfl

/-- At code 2 it writes a register. -/
theorem Vdp.writeControlSecond_register {v : Vdp} {b : Byte} (h : b.toNat / 64 = 2) :
    v.writeControlSecond b =
      { v with
        latch := false
        code := b.extractLsb' 6 2
        addr := BitVec.ofNat 14 (v.secondAddr b)
        vr := v.vr.set (b.extractLsb' 0 4).toNat (v.addr.extractLsb' 0 8) (BitVec.isLt _) } := by
  simp only [Vdp.writeControlSecond, Vdp.secondAddr_eq]
  rw [if_neg (by rw [code_eq_iff, h]; decide), if_pos ((code_eq_iff b 2#2).mpr h)]

/-- At codes 1 and 3 it does nothing more. -/
theorem Vdp.writeControlSecond_plain {v : Vdp} {b : Byte} (h : b.toNat / 64 = 1 ∨ b.toNat / 64 = 3) :
    v.writeControlSecond b =
      { v with latch := false, code := b.extractLsb' 6 2, addr := BitVec.ofNat 14 (v.secondAddr b) } := by
  simp only [Vdp.writeControlSecond, Vdp.secondAddr_eq]
  have h0 : b.extractLsb' 6 2 ≠ 0#2 := fun e => by
    have hcode : b.toNat / 64 = 0 := (code_eq_iff b 0#2).mp e
    omega
  have h2 : b.extractLsb' 6 2 ≠ 2#2 := fun e => by
    have hcode : b.toNat / 64 = 2 := (code_eq_iff b 2#2).mp e
    omega
  rw [if_neg h0, if_neg h2]

theorem Vdp.writeControlSecond_latch_code (v : Vdp) (b : Byte) :
    (v.writeControlSecond b).latch = false ∧ (v.writeControlSecond b).code = b.extractLsb' 6 2 := by
  simp only [Vdp.writeControlSecond]
  split
  · exact ⟨rfl, rfl⟩
  · split <;> exact ⟨rfl, rfl⟩

/-- A register written reads the low byte of the address, and the others as before. -/
theorem Vdp.writeControlSecond_vr {v : Vdp} {b : Byte} (h : b.toNat / 64 = 2) (k : Fin 16) :
    ((v.writeControlSecond b).vr[k]).toNat = if k.val = b.toNat % 16 then v.addr.toNat % 256 else (v.vr[k]).toNat := by
  have hlow : (v.addr.extractLsb' 0 8).toNat = v.addr.toNat % 256 := BitVec.extractLsb'_toNat ..
  have hindex : (b.extractLsb' 0 4).toNat = b.toNat % 16 := BitVec.extractLsb'_toNat ..
  rw [Vdp.writeControlSecond_register h, Fin.getElem_fin, Vector.getElem_set, hindex, apply_ite BitVec.toNat, hlow]
  exact if_congr eq_comm rfl rfl

/-- Two control writes, `x` and 0x80 + `k`, put `x` into register `k`. -/
theorem Vdp.writeControl_writeControl_vr {v : Vdp} (h : v.latch = false) (x : Byte) (k : Fin 16) :
    ((v.writeControl x).writeControl (BitVec.ofNat 8 (0x80 + k.val))).vr[k] = x := by
  have hk := k.isLt
  have hx := x.isLt
  have hb : (BitVec.ofNat 8 (0x80 + k.val)).toNat = 0x80 + k.val := by
    rw [BitVec.toNat_ofNat]
    omega
  apply BitVec.eq_of_toNat_eq
  rw [Vdp.writeControl_of_not_latch h, Vdp.writeControl, if_pos rfl, Vdp.writeControlSecond_vr (by omega), hb,
    if_pos (by omega), BitVec.toNat_ofNat]
  omega

/-! ### Data writes (R486) -/

theorem Vdp.writeData_cram {v : Vdp} (h : v.code = 3) (b : Byte) (k : Fin 32) :
    (v.writeData b).cram[k] = if k.val = v.addr.toNat % 32 then b else v.cram[k] := by
  have hindex : (v.addr.extractLsb' 0 5).toNat = v.addr.toNat % 32 := BitVec.extractLsb'_toNat ..
  simp only [Vdp.writeData_eq, h, if_true, Fin.getElem_fin, Vector.getElem_set, hindex]
  exact if_congr eq_comm rfl rfl

/-- Settles O55: the control writes by their codes, the data write by its target. -/
theorem vdpPortWrites : Obligations.VdpPortWrites := by
  refine ⟨fun v b h => Vdp.writeControl_of_not_latch h b, fun v b h => ?_, fun v b => ?_,
    fun v x k h => Vdp.writeControl_writeControl_vr h x k⟩
  · intro a w
    obtain ⟨hlatch, hcode⟩ := v.writeControlSecond_latch_code b
    have hw : w = v.writeControlSecond b := if_pos h
    rw [hw, hlatch, hcode]
    refine ⟨rfl, code_toNat b, Vdp.writeControlSecond_prefetch,
      fun hc => ⟨Vdp.writeControlSecond_vr hc, ?_⟩, Vdp.writeControlSecond_plain⟩
    rw [Vdp.writeControlSecond_register hc]
    rfl
  · intro w
    have hw : w = v.writeData b := rfl
    refine ⟨fun hc => ⟨?_, Vdp.writeData_cram hc b⟩, fun hc => ⟨?_, fun x => ?_⟩, ?_⟩
    · simp only [hw, Vdp.writeData_eq, if_pos hc]
    · simp only [hw, Vdp.writeData_eq, if_neg hc]
    · simp only [hw, Vdp.writeData_eq, if_neg hc, Vram.read_write]
    · rw [hw, Vdp.writeData_eq, BitVec.ofNat_add, BitVec.ofNat_toNat, BitVec.setWidth_eq]
      rfl

/-! ### The vertical counter (R498) -/

/-- `AdvanceV` jumps when the next line is 0xDB and the jump is armed, and re-arms it at 0. -/
theorem Vdp.advanceV_vertical (v : Vdp) :
    v.advanceV.vcount.toNat =
        (if v.vcount.toNat = 0xDA ∧ v.vjump = false then 0xD5 else (v.vcount.toNat + 1) % 256) ∧
      v.advanceV.vjump =
        if v.vcount.toNat = 0xDA ∧ v.vjump = false then true else if v.vcount.toNat = 0xFF then false else v.vjump := by
  have hdb : v.vcount + 1 = 0xDB#8 ↔ v.vcount.toNat = 0xDA := by bv_omega
  have hzero : v.vcount + 1 = 0x00#8 ↔ v.vcount.toNat = 0xFF := by bv_omega
  have hnext : (v.vcount + 1).toNat = (v.vcount.toNat + 1) % 256 := BitVec.toNat_add ..
  simp only [Vdp.advanceV, hdb, hzero]
  split
  · exact ⟨rfl, rfl⟩
  · split
    next h => exact ⟨by rw [h]; rfl, rfl⟩
    next => exact ⟨hnext, rfl⟩

/-- From 0 with the jump armed: the lines up to 0xDA, before the jump. -/
theorem Vdp.scanlines_before_jump {v : Vdp} (hv : v.vcount = 0) (hj : v.vjump = false) (render : Bool) {k : Nat}
    (hk : k ≤ 218) :
    (Vdp.scanlines render k v).vcount.toNat = k ∧ (Vdp.scanlines render k v).vjump = false := by
  induction k with
  | zero => exact ⟨congrArg BitVec.toNat hv, hj⟩
  | succ k ih =>
    obtain ⟨hc, hf⟩ := ih (by omega)
    obtain ⟨hc', hf'⟩ := (Vdp.scanlines render k v).advanceV_vertical
    obtain ⟨ec, ef⟩ := (Vdp.scanlines render k v).scanline_vertical render
    rw [Vdp.scanlines_succ, ec, ef, hc', hf', hc, hf, if_neg (by omega), if_neg (by omega), if_neg (by omega)]
    exact ⟨Nat.mod_eq_of_lt (by omega), rfl⟩

/-- Then the lines from 0xD5 to 0xFF, after the jump. -/
theorem Vdp.scanlines_after_jump {v : Vdp} (hv : v.vcount = 0) (hj : v.vjump = false) (render : Bool) {k : Nat}
    (hk : k ≤ 42) :
    (Vdp.scanlines render (219 + k) v).vcount.toNat = 213 + k ∧ (Vdp.scanlines render (219 + k) v).vjump = true := by
  induction k with
  | zero =>
    obtain ⟨hc, hf⟩ := Vdp.scanlines_before_jump hv hj render (Nat.le_refl 218)
    obtain ⟨hc', hf'⟩ := (Vdp.scanlines render 218 v).advanceV_vertical
    obtain ⟨ec, ef⟩ := (Vdp.scanlines render 218 v).scanline_vertical render
    rw [Vdp.scanlines_succ, ec, ef, hc', hf', if_pos ⟨hc, hf⟩, if_pos ⟨hc, hf⟩]
    exact ⟨rfl, rfl⟩
  | succ k ih =>
    obtain ⟨hc, hf⟩ := ih (by omega)
    obtain ⟨hc', hf'⟩ := (Vdp.scanlines render (219 + k) v).advanceV_vertical
    obtain ⟨ec, ef⟩ := (Vdp.scanlines render (219 + k) v).scanline_vertical render
    rw [← Nat.add_assoc, Vdp.scanlines_succ, ec, ef, hc', hf', hc, hf, if_neg (by simp), if_neg (by simp),
      if_neg (by omega)]
    exact ⟨Nat.mod_eq_of_lt (by omega), rfl⟩

/-- Settles O56: one scanline is one `AdvanceV`, and a frame is 219 lines to the jump and 43 after it. -/
theorem verticalCounterTakes262LinesAFrame : Obligations.VerticalCounterTakes262LinesAFrame := by
  refine ⟨fun v render => ?_, fun v render hv hj => ⟨fun k hk => ?_, fun k h1 h2 => ?_, ?_⟩⟩
  · obtain ⟨ec, ef⟩ := v.scanline_vertical render
    obtain ⟨hc, hj⟩ := v.advanceV_vertical
    exact ⟨(congrArg BitVec.toNat ec).trans hc, ef.trans hj⟩
  · exact (Vdp.scanlines_before_jump hv hj render hk).1
  · obtain ⟨j, rfl⟩ := Nat.exists_eq_add_of_le h1
    rw [(Vdp.scanlines_after_jump hv hj render (by omega)).1]
    omega
  · obtain ⟨hc, hf⟩ := Vdp.scanlines_after_jump hv hj render (Nat.le_refl 42)
    obtain ⟨hc', hf'⟩ := (Vdp.scanlines render 261 v).advanceV_vertical
    obtain ⟨ec, ef⟩ := (Vdp.scanlines render 261 v).scanline_vertical render
    rw [hc, if_neg (by simp)] at hc' hf'
    rw [Vdp.scanlines_succ, ec, ef]
    exact ⟨BitVec.eq_of_toNat_eq hc', hf'⟩

/-! ### Tick (R497) -/

/-- `Tick` by quotient and remainder: `n` scanlines, and `r` left in `hcount`. -/
theorem Vdp.tick_of_eq {v : Vdp} {cycles n r : Nat} (h : v.hcount.toNat + cycles = 342 * n + r) (hr : r < 342)
    (render : Bool) : v.tick cycles render = { Vdp.scanlines render n v with hcount := BitVec.ofNat 9 r } := by
  have hn : (342 * n + r) / 342 = n := by omega
  have hm : (342 * n + r) % 342 = r := by omega
  rw [Vdp.tick, h, hn, hm]

theorem Vdp.tick_hcount (v : Vdp) (cycles : Nat) (render : Bool) :
    (v.tick cycles render).hcount.toNat = (v.hcount.toNat + cycles) % 342 := by
  rw [Vdp.tick, BitVec.toNat_ofNat]
  omega

/-- The first of several scanlines. -/
theorem Vdp.scanlines_scanline (render : Bool) (n : Nat) (v : Vdp) :
    Vdp.scanlines render n (v.scanline render) = Vdp.scanlines render (n + 1) v := rfl

/-- A scanline's worth of cycles is taken off, and the rest ticked after that scanline. -/
theorem Vdp.tick_of_line {v : Vdp} {a : Nat} (h : 342 ≤ v.hcount.toNat + a) (render : Bool) :
    v.tick a render =
      (({ v with hcount := 0 } : Vdp).scanline render).tick (v.hcount.toNat + a - 342) render := by
  have hdiv := Nat.div_add_mod (v.hcount.toNat + a - 342) 342
  have hmod := Nat.mod_lt (v.hcount.toNat + a - 342) (show 0 < 342 by decide)
  generalize (v.hcount.toNat + a - 342) / 342 = n, (v.hcount.toNat + a - 342) % 342 = r at hdiv hmod
  rw [Vdp.tick_of_eq (n := n + 1) (r := r) (by omega) hmod, Vdp.scanline_hcount,
    Vdp.tick_of_eq (n := n) (r := r) (by rw [hdiv]; exact Nat.zero_add _) hmod,
    Vdp.scanlines_hcount render n (v.scanline render), Vdp.scanlines_scanline]

/-- Ticks add up. -/
theorem Vdp.tick_tick (v : Vdp) (a b : Nat) (render : Bool) :
    (v.tick a render).tick b render = v.tick (a + b) render := by
  have h := v.tick_hcount a render
  have ha := Nat.div_add_mod (v.hcount.toNat + a) 342
  have hb := Nat.div_add_mod ((v.hcount.toNat + a) % 342 + b) 342
  have hr := Nat.mod_lt ((v.hcount.toNat + a) % 342 + b) (show 0 < 342 by decide)
  have hadd := Vdp.tick_of_eq (v := v) (cycles := a + b)
    (n := (v.hcount.toNat + a) / 342 + ((v.hcount.toNat + a) % 342 + b) / 342) (by omega) hr render
  rw [Vdp.tick_of_eq (by rw [h, hb]) hr, hadd, Vdp.tick, Vdp.scanlines_hcount, Vdp.scanlines_add]

/-- Settles O57, from `Tick` by quotient and remainder. -/
theorem ticksAddUp : Obligations.TicksAddUp := by
  intro v render hh
  have hid : BitVec.ofNat 9 v.hcount.toNat = v.hcount := by rw [BitVec.ofNat_toNat, BitVec.setWidth_eq]
  refine ⟨?_, fun a ha => ?_, fun a ha => ?_, fun a b => ?_, fun a => ?_, fun n => ?_⟩
  · rw [Vdp.tick_of_eq (n := 0) (by omega) hh, hid]
    rfl
  · exact Vdp.tick_of_eq (n := 0) (by omega) ha render
  · exact Vdp.tick_of_line ha render
  · exact v.tick_tick a b render
  · exact v.tick_hcount a render
  · rw [Vdp.tick_of_eq (Nat.add_comm ..) hh, hid]

/-! ### The interrupts of a scanline (R499, R502, R503) -/

theorem Vdp.advanceV_frame (v : Vdp) :
    v.advanceV.status = v.status ∧ v.advanceV.fb = v.fb ∧ v.advanceV.displayShown = v.displayShown := by
  rw [Vdp.advanceV_eq]
  exact ⟨rfl, rfl, rfl⟩

/-- Drawing a line gains status bits 5 and 6 only. -/
theorem Vdp.drawn_status (v : Vdp) (render : Bool) : StatusStep 0x60#8 v.status (v.drawn render).status := by
  unfold Vdp.drawn
  split
  · exact v.renderLine_status _
  · exact .refl ..

/-- Drawing a line changes the status register and the framebuffer only. -/
theorem Vdp.drawn_eq (v : Vdp) (render : Bool) :
    v.drawn render = { v with status := (v.drawn render).status, fb := (v.drawn render).fb } := by
  unfold Vdp.drawn
  split
  · exact v.renderLine_eq _
  · rfl

/-- Line 0xC1 as a number. -/
theorem Vdp.vcount_eq_0xC1_iff (v : Vdp) : v.vcount = 0xC1#8 ↔ v.vcount.toNat = 0xC1 := by
  rw [← BitVec.toNat_inj]
  rfl

/-- Settles O58: an active line counts and is not the frame interrupt's; every other line reloads. -/
theorem scanlineRaisesLineAndFrameInterrupts : Obligations.ScanlineRaisesLineAndFrameInterrupts := by
  intro v render
  obtain ⟨ec, ef⟩ := v.scanline_vertical render
  obtain ⟨hstatus, -, -⟩ := v.advanceV_frame
  have hbit : (v.advanceV.drawn render).status.getLsbD 7 = v.advanceV.status.getLsbD 7 :=
    (v.advanceV.drawn_status render).getLsbD (by decide)
  simp only [ec, ef]
  rw [Vdp.scanline_eq]
  by_cases h : v.advanceV.vcount.toNat < 192
  · have hc : v.advanceV.vcount.toNat ≠ 0xC1 := by omega
    simp only [h, hc, hbit, hstatus, if_true, true_and, ite_not, decide_false, Bool.or_false, ne_eq, and_self]
  · simp only [h, if_false, false_and, decide_false, Bool.false_and, Bool.or_false, Vdp.vcount_eq_0xC1_iff, true_and,
      and_true]
    by_cases hc : v.advanceV.vcount.toNat = 0xC1
    · simp [hc]
    · simp [hc]

end Sys2Proof.Machine
end

section
/-! PROOF. What a scanline draws (R499, R500, R504, R509), and the solid tiles of the background (R505 to R508). -/

namespace Sys2Proof.Machine

open Sys2Proof Sys2Proof.Rules

/-! ### The drawn row -/

/-- A scanline draws: its line is active, the display shown and rendering asked for (R499, R500). -/
def Vdp.Draws (v : Vdp) (render : Bool) : Prop :=
  (v.scanline render).vcount.toNat < 192 ∧ (v.vr[1]).getLsbD 6 ≠ v.screen.blankWhen ∧ render = true

theorem Vdp.draws_iff (v : Vdp) (render : Bool) :
    v.Draws render ↔ v.advanceV.vcount.toNat < 192 ∧ (v.advanceV.displayShown && render) = true := by
  rw [Vdp.Draws, (v.scanline_vertical render).1, v.advanceV_frame.2.2, Vdp.displayShown, Bool.and_eq_true, bne_iff_ne]

/-- A scanline that draws writes the row of its line, 256 pixels. -/
theorem Vdp.scanline_fb_of_draws {v : Vdp} {render : Bool} (h : v.Draws render) :
    ∃ row, row.length = 256 ∧ (v.scanline render).fb = Fb.writeRow v.fb (v.scanline render).vcount.toNat row := by
  obtain ⟨hline, hshown⟩ := (v.draws_iff render).mp h
  refine ⟨v.advanceV.drawBackground v.advanceV.vcount.toNat (v.advanceV.drawSprites v.advanceV.vcount.toNat).1,
    Vdp.drawBackground_length .., ?_⟩
  rw [(v.scanline_vertical render).1, Vdp.scanline_eq, if_pos hline, Vdp.drawn, if_pos hshown, ← v.advanceV_frame.2.1]
  rfl

/-- One that does not draw leaves the framebuffer, and can set status bit 7 only. -/
theorem Vdp.scanline_of_not_draws {v : Vdp} {render : Bool} (h : ¬v.Draws render) :
    (v.scanline render).fb = v.fb ∧ StatusStep 0x80#8 v.status (v.scanline render).status := by
  obtain ⟨hstatus, hfb, -⟩ := v.advanceV_frame
  rw [Vdp.scanline_eq]
  by_cases hline : v.advanceV.vcount.toNat < 192
  · have hshown : ¬(v.advanceV.displayShown && render) = true := fun hs => h ((v.draws_iff render).mpr ⟨hline, hs⟩)
    rw [if_pos hline, Vdp.drawn, if_neg hshown]
    exact ⟨hfb, hstatus ▸ .refl ..⟩
  · rw [if_neg hline]
    refine ⟨hfb, ?_⟩
    dsimp only
    split
    · exact .or _ fun _ => id
    · exact .refl ..

/-- A scanline leaves the memories, the registers, the port state, `hcount` and the parameters. -/
theorem Vdp.scanline_changes (v : Vdp) (render : Bool) :
    v.scanline render =
      { v with
        status := (v.scanline render).status
        irqPending := (v.scanline render).irqPending
        vcount := (v.scanline render).vcount
        vjump := (v.scanline render).vjump
        linecnt := (v.scanline render).linecnt
        fb := (v.scanline render).fb } := by
  rw [Vdp.scanline_eq, Vdp.drawn_eq, Vdp.advanceV_eq]
  split <;> rfl

/-- Settles O59: the framebuffer by whether the scanline draws, the status register by the bits each part gains. -/
theorem scanlineDrawsOnlyItsOwnRow : Obligations.ScanlineDrawsOnlyItsOwnRow := by
  refine ⟨rfl, fun v render => ⟨fun x hx => ?_, fun h => ?_, fun h => ?_, (v.scanline_status render).1, fun k hk => ?_,
    v.scanline_changes render⟩⟩
  · by_cases h : v.Draws render
    · obtain ⟨row, -, e⟩ := Vdp.scanline_fb_of_draws h
      rw [e, Fb.row_writeRow, if_neg hx]
    · rw [(Vdp.scanline_of_not_draws h).1]
  · obtain ⟨row, hlen, e⟩ := Vdp.scanline_fb_of_draws h
    rw [e, Fb.row_writeRow, if_pos rfl, hlen]
  · obtain ⟨e, hs⟩ := Vdp.scanline_of_not_draws (render := render) h
    exact ⟨e, hs.getLsbD (by decide), hs.getLsbD (by decide)⟩
  · have hmask : ∀ k < 5, (0xE0#8).getLsbD k = false := by decide
    exact (v.scanline_status render).getLsbD (hmask k hk)

/-! ### Solid tiles (R507, R510) -/

/-- The plane byte of a solid row: all bits alike. -/
theorem getLsbD_solid (c : Bool) {k : Nat} (hk : k < 8) : (if c then 0xFF else 0x00 : Byte).getLsbD k = c := by
  cases c
  · exact BitVec.getLsbD_zero
  · exact (BitVec.getLsbD_allOnes (v := 8)).trans (decide_eq_true hk)

/-- Every row of pattern `t` is four plane bytes all 0x00 or 0xFF. -/
def Vdp.SolidTile (v : Vdp) (t : Nat) (c0 c1 c2 c3 : Bool) : Prop :=
  ∀ r, r < 8 →
    v.vramAt (t * 32 + r * 4) = (if c0 then 0xFF else 0x00) ∧
      v.vramAt (t * 32 + r * 4 + 1) = (if c1 then 0xFF else 0x00) ∧
      v.vramAt (t * 32 + r * 4 + 2) = (if c2 then 0xFF else 0x00) ∧
      v.vramAt (t * 32 + r * 4 + 3) = (if c3 then 0xFF else 0x00)

/-- Every pixel of a solid pattern has the same colour index. -/
theorem Vdp.SolidTile.tilePixel {v : Vdp} {t : Nat} {c0 c1 c2 c3 : Bool} (h : v.SolidTile t c0 c1 c2 c3) {r : Nat}
    (hr : r < 8) (p : Nat) : v.tilePixel t r p = num c0 + 2 * num c1 + 4 * num c2 + 8 * num c3 := by
  have hp : 7 - p < 8 := by omega
  obtain ⟨h0, h1, h2, h3⟩ := h r hr
  simp only [Vdp.tilePixel, h0, h1, h2, h3, num_eq_bit]
  rw [getLsbD_solid c0 hp, getLsbD_solid c1 hp, getLsbD_solid c2 hp, getLsbD_solid c3 hp]

/-- Each channel is 85 times its two-bit level (R508). -/
theorem colour_toNat (b : Byte) :
    (colour b).r.toNat = 85 * (b.toNat % 4) ∧ (colour b).g.toNat = 85 * (b.toNat / 4 % 4) ∧
      (colour b).b.toNat = 85 * (b.toNat / 16 % 4) := by
  revert b
  decide

/-- The default scroll is a subtraction modulo 256 (R505). -/
theorem HScroll.wrap_column (x : Nat) (r8 : Byte) :
    (HScroll.wrap.column x r8 : Int) = ((x : Int) - r8.toNat) % 256 := by
  have h := r8.isLt
  rw [HScroll.column]
  omega

/-- A background pixel that is not left-masked and names a solid pattern has the pattern's one colour, unless a sprite
pixel is there and stays. -/
theorem Vdp.SolidTile.backgroundPixel {v : Vdp} {y x index : Nat} {c0 c1 c2 c3 : Bool} {w : Word} {paint : Rgb}
    (hmask : ¬((v.vr[0]).getLsbD 5 = true ∧ x < 8))
    (hw : w = v.nameEntry (v.ntBase +
      ((y + (v.vr[9]).toNat) % 224 / 8 * 32 + v.screen.hScroll.column x v.vr[8] / 8) * 2))
    (hindex : index = num c0 + 2 * num c1 + 4 * num c2 + 8 * num c3)
    (hpaint : paint = colour (v.cramAt (index + 16 * num (w.getLsbD 11))))
    (h : v.SolidTile (w.toNat % 512) c0 c1 c2 c3) :
    v.backgroundPixel y x none = paint ∧
      ∀ sprite,
        v.backgroundPixel y x (some sprite) = if w.getLsbD 12 = true ∧ index ≠ 0 then paint else sprite := by
  have ht : (w.extractLsb' 0 9).toNat = w.toNat % 512 := BitVec.extractLsb'_toNat ..
  have hfine (c : Bool) :
      (if c then 7 - (y + (v.vr[9]).toNat) % 8 else (y + (v.vr[9]).toNat) % 8) < 8 := by
    split <;> omega
  simp only [Vdp.backgroundPixel, hmask, if_false, ← hw, ht, h.tilePixel (hfine _), ← hindex, ← num_eq_bit, ← hpaint,
    implies_true, and_self]

/-- Settles O60, from the one colour index of a solid pattern. -/
theorem solidTilesPaintOneColour : Obligations.SolidTilesPaintOneColour := by
  refine ⟨fun v y x c0 c1 c2 c3 under => ?_, colour_toNat, rfl, HScroll.wrap_column⟩
  intro u w t index paint hmask h
  obtain ⟨hnone, hsome⟩ := Vdp.SolidTile.backgroundPixel (index := index) (w := w) (paint := paint) hmask rfl rfl rfl h
  exact ⟨hnone, fun sprite hs => hs ▸ hsome sprite⟩

end Sys2Proof.Machine
end
